-- ==== Sys2Proof/Word.lean ====
section
/-! DEFINITION. Word: the bit-vector types of the fields the spec calls bits, bytes or wrapping counts. -/

namespace Sys2Proof

/-- One byte of a link, cell, reader or print frame (spec/11 R184). -/
abbrev Byte := BitVec 8

/-- A slot's change number, 0 … 65,535, wrapping (R40). -/
abbrev Revision := BitVec 16

/-- Yard clock seconds and times in records, 0 … 4,294,967,295 (R179, R184). -/
abbrev Seconds := BitVec 32

/-- A vehicle tag; 0 stands for no tag (R44, R184). -/
abbrev Tag := BitVec 32

/-- An account number; 0 stands for no account where a request allows it (R74, R184). -/
abbrev AccountNo := BitVec 16

/-- A plate, one byte a character (R44, R184). -/
abbrev Plate := List Byte

/-- A timer: stopped, or the moment of the part's own time base, in microseconds, at which it is due. -/
abbrev Timer := Option Nat

end Sys2Proof
end

