-- ==== Sys2Proof/Config.lean ====
section
/-! DEFINITION. Config: what one part fixes and the spec leaves open, as constants without a body. -/

namespace Sys2Proof.Config

/-- The fixed identity of the YC-240 that STATUS returns (R178). The spec gives no value: free. That it is a number of 32 bits
is the model's choice, for the spec gives no form either (log 15). -/
opaque partIdentity : BitVec 32

/-- The silicon revision number, 1 … 255, less one (R178). The spec gives no value: free within its range (log 15). -/
opaque siliconBelow : Fin 255

/-- The bytes of an answer body whose layout the spec does not give ("The byte layouts of other request and answer bodies are
not given in this document", 00 section 1.2): free (log 19). -/
opaque unlaidBody (α : Type) (body : α) : List Byte

/-- The silicon revision number of STATUS (R178). -/
def siliconRevision : Nat := siliconBelow.val + 1

end Sys2Proof.Config
end

