-- ==== Sys2Proof/Syntax.lean ====
section
/-! DEFINITION. Syntax: the names of the equipment and the commands of the part, one constructor for each
row of spec/opcode_table.json. -/

namespace Sys2Proof

/-- The two decks (spec/00 section 2.1). -/
inductive DeckId where
  | d1 | d2
deriving DecidableEq, Repr

/-- The two ends of a deck: the road end R and the yard end Y (spec/00 section 1.5). -/
inductive GateEnd where
  | road | yard
deriving DecidableEq, Repr

/-- The four gates 1R, 1Y, 2R, 2Y (spec/00 section 2.1). -/
inductive GateId where
  | g1R | g1Y | g2R | g2Y
deriving DecidableEq, Repr

/-- The two printers (spec/00 section 2.1). -/
inductive PrinterId where
  | p1 | p2
deriving DecidableEq, Repr

/-- The two limit switches of a gate (R90). -/
inductive LimitSwitch where
  | up | down
deriving DecidableEq, Repr

/-- One value for each deck. -/
structure PerDeck (α : Type) where
  d1 : α
  d2 : α
deriving DecidableEq, Repr

/-- One value for each gate. -/
structure PerGate (α : Type) where
  g1R : α
  g1Y : α
  g2R : α
  g2Y : α
deriving DecidableEq, Repr

/-- One value for each printer. -/
structure PerPrinter (α : Type) where
  p1 : α
  p2 : α
deriving DecidableEq, Repr

/-- The input levels of a gate that a reset samples (R98, R100, R108). -/
structure GatePins where
  occupied : Bool
  up : Bool
  down : Bool
deriving DecidableEq, Repr

/-- The input levels of a printer (R150). -/
structure PrinterPins where
  busy : Bool
  fault : Bool
  done : Bool
deriving DecidableEq, Repr

/-- NCS at the end of a reset, and since (R174): `inactive` there or seen so since; or active ever since, in a selection
whose frame was still `unfinished` at the end of the reset, or had been `finished` by then. -/
inductive Ncs where
  | inactive
  | unfinished
  | finished
deriving DecidableEq, Repr

/-- Every input level that a reset samples (R108, R143, R150), with what NCS is at the end of the reset (R174). -/
structure Pins where
  gates : PerGate GatePins
  printers : PerPrinter PrinterPins
  emergency : Bool
  ncs : Ncs
deriving DecidableEq, Repr

/-- The body of CAL_PUT, in the field widths of its 60-byte packing (R186). -/
structure CalBody where
  deck : DeckId
  division : BitVec 7
  cells : Byte
  stableCount : Byte
  motionBand : BitVec 4
  max : BitVec 18
  threshold : BitVec 18
  zCal : BitVec 32
  zeros : List (BitVec 24)
  spans : List (BitVec 24)
deriving DecidableEq, Repr

/-- The body of PUT_VEHICLE (R69, R187). -/
structure VehicleBody where
  tag : Tag
  plate : List Byte
  account : AccountNo
  kind : Byte
  direction : Byte
  state : Byte
  autoTare : Byte
  validity : BitVec 16
  tareMode : Byte
  tareWeight : BitVec 32
  tareDay : BitVec 16
  tareDeck : Byte
deriving DecidableEq, Repr

/-- The commands of the part. A request's operands are the fields of its body as they arrive, so that a value
out of its range can be carried; `closed` is the level of the calibration switch sampled with the request (R29),
`pins` the levels sampled at a reset. -/
inductive Instr where
  -- Deck Weighing
  | readDeck (deck : Byte)
  | retryCell (deck cell : Byte)
  -- Calibration and Zero Setting
  | calPut (closed : Bool) (body : CalBody)
  | calGet (closed : Bool) (deck : Byte) (part : Option Byte)
  | zero (deck : Byte)
  -- The Visit Register
  | find (mode : Byte) (key : List Byte)
  | seek (slot step filter : Byte)
  | walk
  | amend (slot : Byte) (expected : Option Revision) (kind : Option Byte) (plate : Option (List Byte)) (account : Option AccountNo)
  | cancelVisit (slot : Byte) (expected : Option Revision)
  | resolveClose (slot : Byte) (expected : Option Revision) (action target : Byte) (net : Option (BitVec 32))
  | resolveDiscard (slot : Byte) (expected : Option Revision)
  | collect (slot : Byte) (expected : Option Revision)
  | setTicketNext (number : BitVec 32)
  -- Vehicles, Accounts and Waste Kinds
  | putVehicle (body : VehicleBody)
  | getVehicle (mode : Byte) (key : List Byte)
  | dropVehicle (tag : Tag)
  | setTareFromDeck (tag : Tag) (deck : Byte)
  | putAccount (number : AccountNo) (opening floor : BitVec 32) (limit : Byte)
  | getAccount (number : AccountNo)
  | credit (number : AccountNo) (amount : BitVec 32)
  | stop (number : AccountNo)
  | release (number : AccountNo)
  | dropAccount (number : AccountNo)
  | putKind (code accepted directions : Byte) (rate minimum : BitVec 32)
  | getKind (code : Byte)
  -- Gates
  | setGate (gate warn drive settle : Byte)
  | raise (gate : Byte)
  | lower (gate : Byte)
  | resetGate (gate : Byte)
  | lock (gate : Byte)
  | unlock (gate : Byte)
  | readGate (gate clear : Byte)
  -- Deck Sessions
  | call (gate form : Byte) (key : List Byte) (account : AccountNo) (kind direction : Byte)
  | manualCapture (deck : Byte) (weight : BitVec 32)
  | cancelSession (deck : Byte)
  | setDeckTimers (deck : Byte) (board capture wait : BitVec 16)
  | readSession (deck : Byte)
  -- Site Emergency and Quiet Running
  | emergencyRelease
  | quiet
  | wake
  -- Ticket Printing
  | setPrint (setup strobe hold completion : Byte)
  | holdPrinter (printer : Byte)
  | releasePrinter (printer : Byte)
  | resumePrinter (printer : Byte)
  | redirect (slot : Byte) (expected : Option Revision) (target : Byte)
  | reprint (slot : Byte) (expected : Option Revision)
  | readPrinters
  -- Notices
  | takeNotice
  | dropNotices
  | setNotice (kind enable level : Byte)
  | readNotices
  -- The Control Link and Device Service
  | status
  | setClock (seconds : Seconds)
  | setSite (maxStay tagWake loopWake : Byte)
  | restart (pins : Pins)
  | clearTables (closed : Bool)
  -- the Link Port's own events
  | malformedFrame (kind : Byte)
  | cutShortFrame (kind : Option Byte)
  | overrun
  | answerRead
  -- resets
  | powerOn (pins : Pins)
  | pinReset (pins : Pins)
  -- the cell links
  | cycleSlot (deck : DeckId)
  | cellAnswer (deck : DeckId) (frame : List Byte)
  | answerWindowLapse (deck : DeckId)
  | warmUpLapse (deck : DeckId)
  -- the gates
  | loopStateChange (gate : GateId) (occupied : Bool)
  | limitSwitchChange (gate : GateId) (switch : LimitSwitch) (active : Bool)
  | warnTimeLapse (gate : GateId)
  | driveLimitLapse (gate : GateId)
  | settleTimeLapse (gate : GateId)
  | tagFrame (gate : GateId) (frame : List Byte)
  -- calls and sessions
  | callWaitLapse (gate : GateId)
  | boardTimerLapse (deck : DeckId)
  | captureTimerLapse (deck : DeckId)
  -- the Service Unit and the Emergency Unit
  | yardClockAdvance
  | emergencyInputChange (active : Bool)
  -- the print bus
  | setupTimeLapse
  | strobeTimeLapse
  | holdTimeLapse
  | pbusyChange (printer : PrinterId) (active : Bool)
  | busyWaitLapse
  | pfltChange (printer : PrinterId) (active : Bool)
  | pdoneChange (printer : PrinterId) (active : Bool)
  | completionLimitLapse
  -- the main supply
  | mainSupplyLoss (backupFails : Bool)
deriving DecidableEq, Repr

end Sys2Proof
end

