-- ==== Sys2Proof/WellFormed.lean ====
section
/-! DEFINITION. WellFormed: which commands a frame of the link can spell (R184, R186); everything a field's
width already says is said by its type. -/

namespace Sys2Proof

/-- A plate or key field is ten bytes (R184, R186). -/
def tenBytes (l : List Byte) : Bool := l.length == 10

/-- A CAL_PUT body carries a zero count and a span for each of the eight addresses (R27, R186). -/
def CalBody.wf (b : CalBody) : Bool := b.zeros.length == 8 && b.spans.length == 8

/-- The command can be spelled by a frame of its kind. A RESOLVE frame whose action is DISCARD (code 2) is
RESOLVE_DISCARD's; a RESOLVE frame of any other action is RESOLVE_CLOSE's (log 21). -/
def Instr.wf : Instr → Bool
  | .calPut _ b => b.wf
  | .find _ k => tenBytes k
  | .amend _ _ _ p _ => match p with
    | some l => tenBytes l
    | none => true
  | .resolveClose _ _ a _ _ => a != 2#8
  | .putVehicle b => tenBytes b.plate
  | .getVehicle _ k => tenBytes k
  | .call _ _ k _ _ _ => tenBytes k
  | _ => true

end Sys2Proof
end

