-- ==== Sys2Proof/Decode.lean ====
section
/-! DEFINITION. Decode: byte order, the request kinds and body lengths, and the selections of the control link
read as commands (R174, R177, R184 to R186). The opcode table gives no row bits, so decodeTableWord reads none. -/

namespace Sys2Proof

/-- The bytes of a field, most significant first, as a number (R184). -/
def natOfBytes (bs : List Byte) : Nat := bs.foldl (fun acc b => acc * 256 + b.toNat) 0

/-- The `n` bytes of a field that holds `x`, most significant first, signed values in two's complement (R184). -/
def bytesOfInt : Nat → Int → List Byte
  | 0, _ => []
  | n + 1, x => bytesOfInt n (x / 256) ++ [BitVec.ofInt 8 x]

/-- The `n` bytes of an unsigned field (R184). -/
def bytesOfNat (n x : Nat) : List Byte := bytesOfInt n x

/-- The sum of a frame's bytes modulo 256: zero in a frame whose one-byte check holds (R189). -/
def byteSum (bs : List Byte) : Byte := bs.foldl (· + ·) 0

/-- The one-byte check that makes the sum of a frame zero (R189). -/
def checkByte (bs : List Byte) : Byte := 0 - byteSum bs

/-! ### Request kinds (R186) -/

namespace Code
def readDeck : Byte := 0x10
def retryCell : Byte := 0x11
def calPut : Byte := 0x18
def calGet : Byte := 0x19
def zero : Byte := 0x1A
def find : Byte := 0x20
def seek : Byte := 0x21
def walk : Byte := 0x22
def amend : Byte := 0x23
def cancelVisit : Byte := 0x24
def resolve : Byte := 0x25
def collect : Byte := 0x26
def setTicketNext : Byte := 0x27
def putVehicle : Byte := 0x30
def getVehicle : Byte := 0x31
def dropVehicle : Byte := 0x32
def setTareFromDeck : Byte := 0x33
def putAccount : Byte := 0x34
def getAccount : Byte := 0x35
def credit : Byte := 0x36
def stop : Byte := 0x37
def release : Byte := 0x38
def dropAccount : Byte := 0x39
def putKind : Byte := 0x3A
def getKind : Byte := 0x3B
def setGate : Byte := 0x40
def raise : Byte := 0x41
def lower : Byte := 0x42
def resetGate : Byte := 0x43
def lock : Byte := 0x44
def unlock : Byte := 0x45
def readGate : Byte := 0x46
def call : Byte := 0x50
def manualCapture : Byte := 0x51
def cancelSession : Byte := 0x52
def setDeckTimers : Byte := 0x53
def readSession : Byte := 0x54
def emergencyRelease : Byte := 0x58
def quiet : Byte := 0x59
def wake : Byte := 0x5A
def setPrint : Byte := 0x60
def holdPrinter : Byte := 0x61
def releasePrinter : Byte := 0x62
def resumePrinter : Byte := 0x63
def redirect : Byte := 0x64
def reprint : Byte := 0x65
def readPrinters : Byte := 0x66
def takeNotice : Byte := 0x70
def dropNotices : Byte := 0x71
def setNotice : Byte := 0x72
def readNotices : Byte := 0x73
def status : Byte := 0x78
def setClock : Byte := 0x79
def setSite : Byte := 0x7A
def restart : Byte := 0x7B
def clearTables : Byte := 0x7C
end Code

/-- The body lengths that each listed kind allows (R186). -/
def bodyLengths : List (Byte × List Nat) :=
  [(Code.readDeck, [1]), (Code.retryCell, [2]), (Code.calPut, [60]), (Code.calGet, [1, 2]), (Code.zero, [1])] ++
  [(Code.find, [11]), (Code.seek, [3]), (Code.walk, [0]), (Code.amend, [18]), (Code.cancelVisit, [4]),
   (Code.resolve, [11]), (Code.collect, [4]), (Code.setTicketNext, [4])] ++
  [(Code.putVehicle, [30]), (Code.getVehicle, [11]), (Code.dropVehicle, [4]), (Code.setTareFromDeck, [5]),
   (Code.putAccount, [11]), (Code.getAccount, [2]), (Code.credit, [6]), (Code.stop, [2]), (Code.release, [2]),
   (Code.dropAccount, [2]), (Code.putKind, [11]), (Code.getKind, [1])] ++
  [(Code.setGate, [4]), (Code.raise, [1]), (Code.lower, [1]), (Code.resetGate, [1]), (Code.lock, [1]),
   (Code.unlock, [1]), (Code.readGate, [2])] ++
  [(Code.call, [16]), (Code.manualCapture, [5]), (Code.cancelSession, [1]), (Code.setDeckTimers, [7]),
   (Code.readSession, [1])] ++
  [(Code.emergencyRelease, [0]), (Code.quiet, [0]), (Code.wake, [0])] ++
  [(Code.setPrint, [4]), (Code.holdPrinter, [1]), (Code.releasePrinter, [1]), (Code.resumePrinter, [1]),
   (Code.redirect, [5]), (Code.reprint, [4]), (Code.readPrinters, [0])] ++
  [(Code.takeNotice, [0]), (Code.dropNotices, [0]), (Code.setNotice, [3]), (Code.readNotices, [0])] ++
  [(Code.status, [0]), (Code.setClock, [4]), (Code.setSite, [3]), (Code.restart, [0]), (Code.clearTables, [0])]

/-- The lengths allowed for a kind byte; none for an unknown kind (R186). -/
def lengthsOf (kind : Byte) : List Nat := (bodyLengths.lookup kind).getD []

/-! ### Selections (R174, R177) -/

/-- What one selection of the link is (R174, R177). -/
inductive Selection where
  | nothing
  | read
  | cutShort (kind : Option Byte)
  | malformed (kind : Byte)
  | request (kind : Byte) (body : List Byte)
deriving DecidableEq, Repr

/-- The bytes received on SDI in one selection, classified by the first byte and checked for length and kind
(R174, R177). Bytes after completion are ignored. -/
def classify : List Byte → Selection
  | [] => .nothing
  | first :: rest =>
    if first ≠ 0xA5 then .read
    else match rest with
      | [] => .cutShort none
      | [kind] => .cutShort (some kind)
      | kind :: len :: body =>
        if 60 < len.toNat then .malformed kind
        else if body.length < len.toNat then .cutShort (some kind)
        else if len.toNat ∈ lengthsOf kind then .request kind (body.take len.toNat)
        else .malformed kind

/-! ### Bodies -/

/-- The byte at an index of a body. -/
def byteAt (b : List Byte) (i : Nat) : Byte := b.getD i 0

/-- `n` bytes of a body from an index. -/
def slice (b : List Byte) (i n : Nat) : List Byte := (b.drop i).take n

/-- A field of `n` bytes of a body from an index, as a bit vector of width `w`. -/
def fieldAt (w : Nat) (b : List Byte) (i n : Nat) : BitVec w := BitVec.ofNat w (natOfBytes (slice b i n))

/-- The optional group of an expected revision: a presence byte, then the revision (R184). The spec says what a presence byte
of 0 does; that every other value, 2 … 255 too, reads as present is the model's choice (log 35). -/
def expectedAt (b : List Byte) (i : Nat) : Option Revision :=
  if byteAt b i = 0 then none else some (fieldAt 16 b (i + 1) 2)

/-- The 60-byte packing of CAL_PUT (R186). -/
def calBodyOf (b : List Byte) : CalBody :=
  { deck := if (byteAt b 0).getLsbD 7 then .d2 else .d1
    division := (byteAt b 0).extractLsb' 0 7
    cells := byteAt b 1
    stableCount := byteAt b 2
    motionBand := (byteAt b 3).extractLsb' 4 4
    max := BitVec.ofNat 18 (natOfBytes ((byteAt b 3 &&& 0x0F) :: slice b 8 4) / 2 ^ 18)
    threshold := BitVec.ofNat 18 (natOfBytes (slice b 8 4))
    zCal := fieldAt 32 b 4 4
    zeros := (List.range 8).map fun i => fieldAt 24 b (12 + 6 * i) 3
    spans := (List.range 8).map fun i => fieldAt 24 b (15 + 6 * i) 3 }

/-- The 30-byte body of PUT_VEHICLE: the first eight fields of the vehicle image, the tare mode, the three tare
fields (R187). -/
def vehicleBodyOf (b : List Byte) : VehicleBody :=
  { tag := fieldAt 32 b 0 4, plate := slice b 4 10, account := fieldAt 16 b 14 2, kind := byteAt b 16
    direction := byteAt b 17, state := byteAt b 18, autoTare := byteAt b 19, validity := fieldAt 16 b 20 2
    tareMode := byteAt b 22, tareWeight := fieldAt 32 b 23 4, tareDay := fieldAt 16 b 27 2, tareDeck := byteAt b 29 }

/-- AMEND's optional fields: a presence byte with one mark for each of kind, plate and account, then the three
fields. PRESUMED: the spec gives the body's length but not its layout (log 19). Bits 3 … 7 of the presence byte are not
examined (log 35). -/
def amendOf (b : List Byte) : Instr :=
  .amend (byteAt b 0) (expectedAt b 1)
    (if (byteAt b 4).getLsbD 0 then some (byteAt b 5) else none)
    (if (byteAt b 4).getLsbD 1 then some (slice b 6 10) else none)
    (if (byteAt b 4).getLsbD 2 then some (fieldAt 16 b 16 2) else none)

/-- RESOLVE: the action code tells RESOLVE_DISCARD's frames from RESOLVE_CLOSE's (R58, R59; log 19, log 21). A presence
byte of the override other than 0 reads as present (log 35). -/
def resolveOf (b : List Byte) : Instr :=
  if byteAt b 4 = 2 then .resolveDiscard (byteAt b 0) (expectedAt b 1)
  else .resolveClose (byteAt b 0) (expectedAt b 1) (byteAt b 4) (byteAt b 5)
    (if byteAt b 6 = 0 then none else some (fieldAt 32 b 7 4))

/-- The command that a readable request frame of a listed kind and length spells, with the levels the part
samples while it performs it. Bodies that R186 and R187 do not lay out are read as the fields in the order the
request names them, each in the width of R184. PRESUMED (log 19). -/
def requestOf (closed : Bool) (pins : Pins) (kind : Byte) (b : List Byte) : Option Instr :=
  if kind = Code.readDeck then some (.readDeck (byteAt b 0))
  else if kind = Code.retryCell then some (.retryCell (byteAt b 0) (byteAt b 1))
  else if kind = Code.calPut then some (.calPut closed (calBodyOf b))
  else if kind = Code.calGet then some (.calGet closed (byteAt b 0) (b[1]?))
  else if kind = Code.zero then some (.zero (byteAt b 0))
  else if kind = Code.find then some (.find (byteAt b 0) (slice b 1 10))
  else if kind = Code.seek then some (.seek (byteAt b 0) (byteAt b 1) (byteAt b 2))
  else if kind = Code.walk then some .walk
  else if kind = Code.amend then some (amendOf b)
  else if kind = Code.cancelVisit then some (.cancelVisit (byteAt b 0) (expectedAt b 1))
  else if kind = Code.resolve then some (resolveOf b)
  else if kind = Code.collect then some (.collect (byteAt b 0) (expectedAt b 1))
  else if kind = Code.setTicketNext then some (.setTicketNext (fieldAt 32 b 0 4))
  else if kind = Code.putVehicle then some (.putVehicle (vehicleBodyOf b))
  else if kind = Code.getVehicle then some (.getVehicle (byteAt b 0) (slice b 1 10))
  else if kind = Code.dropVehicle then some (.dropVehicle (fieldAt 32 b 0 4))
  else if kind = Code.setTareFromDeck then some (.setTareFromDeck (fieldAt 32 b 0 4) (byteAt b 4))
  else if kind = Code.putAccount then
    some (.putAccount (fieldAt 16 b 0 2) (fieldAt 32 b 2 4) (fieldAt 32 b 6 4) (byteAt b 10))
  else if kind = Code.getAccount then some (.getAccount (fieldAt 16 b 0 2))
  else if kind = Code.credit then some (.credit (fieldAt 16 b 0 2) (fieldAt 32 b 2 4))
  else if kind = Code.stop then some (.stop (fieldAt 16 b 0 2))
  else if kind = Code.release then some (.release (fieldAt 16 b 0 2))
  else if kind = Code.dropAccount then some (.dropAccount (fieldAt 16 b 0 2))
  else if kind = Code.putKind then
    some (.putKind (byteAt b 0) (byteAt b 1) (byteAt b 2) (fieldAt 32 b 3 4) (fieldAt 32 b 7 4))
  else if kind = Code.getKind then some (.getKind (byteAt b 0))
  else if kind = Code.setGate then some (.setGate (byteAt b 0) (byteAt b 1) (byteAt b 2) (byteAt b 3))
  else if kind = Code.raise then some (.raise (byteAt b 0))
  else if kind = Code.lower then some (.lower (byteAt b 0))
  else if kind = Code.resetGate then some (.resetGate (byteAt b 0))
  else if kind = Code.lock then some (.lock (byteAt b 0))
  else if kind = Code.unlock then some (.unlock (byteAt b 0))
  else if kind = Code.readGate then some (.readGate (byteAt b 0) (byteAt b 1))
  else if kind = Code.call then
    some (.call (byteAt b 0) (byteAt b 1) (slice b 2 10) (fieldAt 16 b 12 2) (byteAt b 14) (byteAt b 15))
  else if kind = Code.manualCapture then some (.manualCapture (byteAt b 0) (fieldAt 32 b 1 4))
  else if kind = Code.cancelSession then some (.cancelSession (byteAt b 0))
  else if kind = Code.setDeckTimers then
    some (.setDeckTimers (byteAt b 0) (fieldAt 16 b 1 2) (fieldAt 16 b 3 2) (fieldAt 16 b 5 2))
  else if kind = Code.readSession then some (.readSession (byteAt b 0))
  else if kind = Code.emergencyRelease then some .emergencyRelease
  else if kind = Code.quiet then some .quiet
  else if kind = Code.wake then some .wake
  else if kind = Code.setPrint then some (.setPrint (byteAt b 0) (byteAt b 1) (byteAt b 2) (byteAt b 3))
  else if kind = Code.holdPrinter then some (.holdPrinter (byteAt b 0))
  else if kind = Code.releasePrinter then some (.releasePrinter (byteAt b 0))
  else if kind = Code.resumePrinter then some (.resumePrinter (byteAt b 0))
  else if kind = Code.redirect then some (.redirect (byteAt b 0) (expectedAt b 1) (byteAt b 4))
  else if kind = Code.reprint then some (.reprint (byteAt b 0) (expectedAt b 1))
  else if kind = Code.readPrinters then some .readPrinters
  else if kind = Code.takeNotice then some .takeNotice
  else if kind = Code.dropNotices then some .dropNotices
  else if kind = Code.setNotice then some (.setNotice (byteAt b 0) (byteAt b 1) (byteAt b 2))
  else if kind = Code.readNotices then some .readNotices
  else if kind = Code.status then some .status
  else if kind = Code.setClock then some (.setClock (fieldAt 32 b 0 4))
  else if kind = Code.setSite then some (.setSite (byteAt b 0) (byteAt b 1) (byteAt b 2))
  else if kind = Code.restart then some (.restart pins)
  else if kind = Code.clearTables then some (.clearTables closed)
  else none

/-- The command that one request selection hands to the part (R174, R177); none for a selection without a byte
and for a read selection, whose effect ANSWER_READ stands for. -/
def commandOf (closed : Bool) (pins : Pins) (sdi : List Byte) : Option Instr :=
  match classify sdi with
  | .nothing => none
  | .read => none
  | .cutShort kind => some (.cutShortFrame kind)
  | .malformed kind => some (.malformedFrame kind)
  | .request kind body => requestOf closed pins kind body

/-- The command a table word spells. No row of spec/opcode_table.json gives bits, so no word spells one. -/
def decodeTableWord (_nbits _w : Nat) : Option Instr := none

end Sys2Proof
end

