-- ==== Sys2Proof/Machine/State.lean ====
section
/-! DEFINITION. State: every piece of state the spec gives the part, the answers it prepares, and the state right
after reset. -/

namespace Sys2Proof.Machine

open Sys2Proof

/-! ### Deck Weighing and Calibration -/

/-- The availability of a deck (R17 to R22). -/
inductive Availability where
  | uncalibrated | asleep | warming | ready | fault
deriving DecidableEq, Repr

/-- The status of a reading: NONE, VALID, PARTIAL, OVER, UNDER (R17). -/
inductive ReadStatus where
  | noStatus | valid | partialCycle | over | under
deriving DecidableEq, Repr

/-- A deck's poll rate (R4). -/
inductive PollRate where
  | full | reduced
deriving DecidableEq, Repr

/-- A calibration record (R27). The enabled cell set has bit `i` for address `i`. -/
structure CalRecord where
  cells : Byte
  zeros : List Int
  spans : List Nat
  zCal : Int
  max : Nat
  division : Nat
  threshold : Nat
  motionBand : Nat
  stableCount : Nat
  changeTime : Seconds
deriving DecidableEq, Repr

/-- The Calibration Store's holdings for one deck, retained (R28, R30). -/
structure Cal where
  record : Option CalRecord
  changes : Nat
  zSet : Int
deriving DecidableEq, Repr

/-- A cell's miss count and FAILED mark (R3). -/
structure Cell where
  misses : Nat
  failed : Bool
deriving DecidableEq, Repr

/-- A good answer of a cycle: address, count, and whether the status was OVERRANGE (R2). -/
structure Good where
  cell : Nat
  count : Int
  overrange : Bool
deriving DecidableEq, Repr

/-- A cycle in progress: whether the deck was WARMING when it began (R7; log 11), the cell whose answer window is open, the
cells still to be read, the good answers so far, and the moment the window lapses (R1, R2). -/
structure Cycle where
  warming : Bool
  awaiting : Nat
  todo : List Nat
  good : List Good
  windowDue : Nat
deriving DecidableEq, Repr

/-- A Cell Link Controller (R1, R3, R4): the next slot boundary of the free-running cycle timer, the skip count,
the cells at addresses 0 … 7, and the cycle in progress. -/
structure CellLink where
  slotDue : Nat
  skip : Nat
  cells : List Cell
  cycle : Option Cycle
deriving DecidableEq, Repr

/-- A deck's reading record (R17). The stable flag is a view (R13). -/
structure Reading where
  availability : Availability
  status : ReadStatus
  net : Int
  weight : Int
  current : Bool
  still : Nat
  track : Nat
  lastComplete : Seconds
  raw : Int
deriving DecidableEq, Repr

/-- A Deck Weighing Unit: the reading record, the working zero (R14), the stillness reference W_ref in grams with its
present mark (R12; log 10), and the warm-up timer (R19). -/
structure Weigher where
  reading : Reading
  zd : Int
  ref : Int
  refPresent : Bool
  warmUp : Timer
deriving DecidableEq, Repr

/-! ### Sessions and calls -/

/-- The states of a session but VACANT, which is the absence of a session record (R112). -/
inductive Stage where
  | called | boarding | onDeck | released | leaving | clearing
deriving DecidableEq, Repr

/-- The direction of a session (R112). -/
inductive Heading where
  | inbound | outbound
deriving DecidableEq, Repr

/-- What became of the session's visit (R112). -/
inductive VisitOutcome where
  | pending | onSite | held | closed | undone
deriving DecidableEq, Repr

/-- The session record of a session that is not VACANT (R112). -/
structure Serving where
  stage : Stage
  heading : Heading
  entryEnd : GateEnd
  releaseEnd : GateEnd
  slot : Nat
  outcome : VisitOutcome
  accepted : Seconds
  boardDue : Timer
  captureDue : Timer
  clearMark : Bool
  waiver : Bool
deriving DecidableEq, Repr

/-- A deck's timer settings in seconds, retained (R132). -/
structure DeckTimes where
  boardTime : Nat
  captureTime : Nat
  callWait : Nat
deriving DecidableEq, Repr

/-- The state of one deck: Calibration Store, Cell Link Controller, Deck Weighing Unit, Session Controller. -/
structure Deck where
  cal : Cal
  cells : CellLink
  unit : Weigher
  session : Option Serving
  times : DeckTimes
deriving DecidableEq, Repr

/-- The direction of a visit (R42). -/
inductive Direction where
  | deliver | collect
deriving DecidableEq, Repr

/-- The form and key of a call, with a PLATE call's other fields (R114, section 6.2). -/
inductive CallForm where
  | tag (tag : Tag)
  | plate (plate : Plate) (account : Option AccountNo) (kind : Nat) (direction : Direction)
  | slot (slot : Nat)
deriving DecidableEq, Repr

/-- The reasons of a refused call (R167). -/
inductive CallReason where
  | deckUnavailable | unknownTag | vehicleBarred | alreadyOnSite | kindClosed
  | accountStopped | accountLimit | yardFull | visitBusy | noVisit
deriving DecidableEq, Repr

/-- A waiting call: its form and fields, its arrival stamp in milliseconds of the part's own time base, and its
wait timer (R114, R116). -/
structure WaitingCall where
  form : CallForm
  stamp : Nat
  due : Nat
deriving DecidableEq, Repr

/-! ### Gates -/

/-- The phases of a motion (R90). -/
inductive Phase where
  | warn | drive | settle
deriving DecidableEq, Repr

/-- Who asked for a motion (R90). -/
inductive Origin where
  | session | host | reset | release | emergency
deriving DecidableEq, Repr

/-- The barrier state. While it moves it carries the phase, the motion origin and the moment its phase timer is due;
`forced` is the forced mark of a RAISING barrier (R90). -/
inductive Barrier where
  | down | up | forced | fault
  | raising (phase : Phase) (origin : Origin) (due : Nat) (forced : Bool)
  | lowering (phase : Phase) (origin : Origin) (due : Nat)
deriving DecidableEq, Repr

/-- The two kinds of request to a barrier (R90). -/
inductive MoveKind where
  | raise | lower
deriving DecidableEq, Repr

/-- A pending request with its origin (R90). -/
structure MoveRequest where
  kind : MoveKind
  origin : Origin
deriving DecidableEq, Repr

/-- The last accepted tag and when its suppression timer started (R110). -/
structure RepeatMemory where
  tag : Tag
  since : Nat
deriving DecidableEq, Repr

/-- A gate channel (R90, R91). The timing settings are retained. The light is a view (R103). -/
structure Gate where
  barrier : Barrier
  request : Option MoveRequest
  locked : Bool
  pass : Bool
  occupied : Bool
  upSwitch : Bool
  downSwitch : Bool
  memory : Option RepeatMemory
  drops : Nat
  waiting : Option WaitingCall
  warnTime : Nat
  driveLimit : Nat
  settleTime : Nat
deriving DecidableEq, Repr

/-! ### The Visit Register -/

/-- Where a weighing's weight came from (R43). -/
inductive WeighOrigin where
  | deck | manual | stored
deriving DecidableEq, Repr

/-- A weighing: weight in kg, deck, time, origin (R43). -/
structure Weighing where
  weight : Int
  deck : DeckId
  time : Seconds
  origin : WeighOrigin
deriving DecidableEq, Repr

/-- Why a visit is HELD (R42, R48). -/
inductive HeldReason where
  | negativeNet | lowNet
deriving DecidableEq, Repr

/-- The mark of a ticket (R42). -/
inductive PrintMark where
  | unprinted | printing | printed | notRequired
deriving DecidableEq, Repr

/-- What a CLOSED visit holds beside the visit's common fields (R42, R50). A print target is a printer or NONE. -/
structure Ticket where
  first : Weighing
  second : Weighing
  net : Int
  number : Nat
  closeTime : Seconds
  charge : Nat
  adjusted : Bool
  target : Option PrinterId
  mark : PrintMark
  attempts : Nat
  collected : Bool
deriving DecidableEq, Repr

/-- A visit's state with the fields that are present in that state alone (R41, R42). -/
inductive VisitState where
  | arriving (deck : DeckId)
  | onSite (first : Weighing)
  | departing (deck : DeckId) (first : Weighing)
  | held (first second : Weighing) (net : Int) (reason : HeldReason)
  | closed (ticket : Ticket)
deriving DecidableEq, Repr

/-- A visit record (R42): the fields present in every state, and the state. -/
structure Visit where
  tag : Option Tag
  plate : Plate
  account : Option AccountNo
  kind : Nat
  direction : Direction
  opened : Seconds
  onePass : Bool
  overStay : Bool
  state : VisitState
deriving DecidableEq, Repr

/-- A slot: its revision, and its visit or FREE (R40). -/
structure Slot where
  revision : Revision
  visit : Option Visit
deriving DecidableEq, Repr

/-- The walk's step (R53). -/
inductive WalkStep where
  | up | down | stay
deriving DecidableEq, Repr

/-- The names of the visit states (R41). -/
inductive VisitName where
  | free | arriving | onSite | departing | held | closed
deriving DecidableEq, Repr

/-- The walk's state filter (R53). -/
inductive WalkFilter where
  | anyNonFree
  | named (name : VisitName)
deriving DecidableEq, Repr

/-- A snapshot of a slot: its number, and the slot as it stood (R53). -/
structure Snapshot where
  number : Nat
  slot : Slot
deriving DecidableEq, Repr

/-- The walk cursor, volatile; an absent snapshot is the END marker (R53). -/
structure Cursor where
  position : Nat
  step : WalkStep
  filter : WalkFilter
  buffer : Option Snapshot
deriving DecidableEq, Repr

/-- The Visit Register: slots and next-ticket counter, retained, and the walk cursor (R40, R49, R53). -/
structure Register where
  slots : List Slot
  nextTicket : Nat
  cursor : Cursor
deriving DecidableEq, Repr

/-! ### Vehicles, Accounts and Waste Kinds -/

/-- A stored tare: weight in kg, day number, deck (R67). -/
structure Tare where
  weight : Nat
  day : Nat
  deck : DeckId
deriving DecidableEq, Repr

/-- A vehicle entry (R67); `barred` is its state, BARRED or ENABLED. -/
structure Vehicle where
  tag : Tag
  plate : Plate
  account : AccountNo
  kind : Nat
  direction : Direction
  barred : Bool
  autoTare : Bool
  tare : Option Tare
  validity : Nat
deriving DecidableEq, Repr

/-- An account's state with its stop cause (R74). -/
inductive AccountState where
  | active | stoppedAuto | stoppedHold
deriving DecidableEq, Repr

/-- An account (R74): money in minor units. -/
structure Account where
  number : AccountNo
  state : AccountState
  balance : Int
  floor : Int
  limit : Nat
  count : Nat
deriving DecidableEq, Repr

/-- The directions a waste kind allows (R83). -/
inductive KindDirections where
  | deliver | collect | both
deriving DecidableEq, Repr

/-- A waste kind (R83). -/
structure Kind where
  accepted : Bool
  directions : KindDirections
  rate : Nat
  minimum : Nat
deriving DecidableEq, Repr

/-! ### Ticket Printing -/

/-- The printer states (R152). -/
inductive PrinterState where
  | inService | printing | held | outOfService
deriving DecidableEq, Repr

/-- Why a printer last went OUT_OF_SERVICE (R152). -/
inductive FaultCause where
  | busyTimeout | doneTimeout | faultLine
deriving DecidableEq, Repr

/-- A printer: state, hold request, last fault cause (R152), and the levels of its inputs (R150). -/
structure Printer where
  state : PrinterState
  hold : Bool
  lastFault : Option FaultCause
  pins : PrinterPins
deriving DecidableEq, Repr

/-- The print timing settings, retained: microseconds, and the completion limit in seconds (R151). -/
structure PrintTimes where
  setup : Nat
  strobe : Nat
  hold : Nat
  completion : Nat
deriving DecidableEq, Repr

/-- Where a job is: waiting for BUSY before a byte, in a byte's setup, strobe or hold, or in the completion wait,
each with the moment its timer is due (R156, R157). -/
inductive JobPhase where
  | waitBusy (due : Nat)
  | setup (due : Nat)
  | strobe (due : Nat)
  | hold (due : Nat)
  | completing (due : Nat)
deriving DecidableEq, Repr

/-- The job in progress (R155): its printer, slot, ticket and copy number, the frame fixed at its start, the bytes
already sent, the settings it runs with, and its phase. -/
structure Job where
  printer : PrinterId
  slot : Nat
  ticket : Nat
  copy : Nat
  frame : List Byte
  sent : Nat
  times : PrintTimes
  phase : JobPhase
deriving DecidableEq, Repr

/-- The Print Controller (R150 to R155). -/
structure Printing where
  printers : PerPrinter Printer
  lastServed : PrinterId
  times : PrintTimes
  job : Option Job
deriving DecidableEq, Repr

/-! ### Emergency, Service and Notices -/

/-- The Emergency Unit: the latch, and the qualified level of EMERG (R137). -/
structure Emergency where
  latch : Bool
  input : Bool
deriving DecidableEq, Repr

/-- The wake cause (R144). -/
inductive WakeCause where
  | tag (gate : GateId)
  | loop (gate : GateId)
  | emergency
  | host
deriving DecidableEq, Repr

/-- The reset cause (R181). -/
inductive ResetCause where
  | powerOn | pinReset | linkReset
deriving DecidableEq, Repr

/-- The Service Unit: yard clock, clock-set flag and the end of the running second (R179), retention mark and
retention-intact flag (R182), reset cause (R181), quiet state and wake cause (R144), site settings (R144, R180). -/
structure Service where
  clock : Seconds
  clockSet : Bool
  secondDue : Nat
  mark : Bool
  intact : Bool
  cause : ResetCause
  quiet : Bool
  wake : Option WakeCause
  maxStay : Nat
  tagWake : Bool
  loopWake : Bool
deriving DecidableEq, Repr

/-- The sixteen notice kinds, in their order (R167). -/
inductive NoticeKind where
  | emergency | retentionLost | deckFault | barrierFault | printerFault | zeroDrift | captureTimeout | callRefused
  | callExpired | visitHeld | accountStopped | overStay | yardNearlyFull | collectWaiting | woken | restarted
deriving DecidableEq, Repr

/-- The level of a notice kind (R167). -/
inductive Level where
  | urgent | routine
deriving DecidableEq, Repr

/-- The detail of a notice (R167). -/
inductive Detail where
  | nothing
  | cell (deck : DeckId) (cell : Nat)
  | gate (gate : GateId)
  | printer (printer : PrinterId)
  | deck (deck : DeckId)
  | refusal (gate : GateId) (reason : CallReason)
  | slot (slot : Nat)
  | account (number : AccountNo)
  | freeCount (count : Nat)
  | wake (cause : WakeCause)
  | reset (cause : ResetCause)
deriving DecidableEq, Repr

/-- What the Notice Unit holds for one kind: enable, level, and the detail while the kind is pending (R168, R169). -/
structure NoticeLine where
  enable : Bool
  level : Level
  detail : Option Detail
deriving DecidableEq, Repr

/-! ### Answers -/

/-- The twelve outcomes of an answer (R177). -/
inductive ReplyCode where
  | done | busy | notFound | conflict | stale | wrongState | full | guarded | outOfRange | refused
  | deckUnavailable | malformed
deriving DecidableEq, Repr

/-- One cell as READ_DECK reports it (R25, R187). -/
structure CellImage where
  enabled : Bool
  failed : Bool
  misses : Nat
deriving DecidableEq, Repr

/-- READ_DECK's fields (R25). -/
structure DeckImage where
  reading : Reading
  stable : Bool
  zd : Int
  rate : PollRate
  cells : List CellImage
deriving DecidableEq, Repr

/-- READ_GATE's fields (R111). -/
structure GateImage where
  barrier : Barrier
  request : Option MoveRequest
  locked : Bool
  pass : Bool
  green : Bool
  occupied : Bool
  upSwitch : Bool
  downSwitch : Bool
  warnTime : Nat
  driveLimit : Nat
  settleTime : Nat
  memory : Option Tag
  drops : Nat
  waiting : Bool
deriving DecidableEq, Repr

/-- A waiting call as READ_SESSION reports it: age in milliseconds, time left in seconds (R133). -/
structure CallImage where
  form : CallForm
  age : Nat
  left : Nat
deriving DecidableEq, Repr

/-- READ_SESSION's fields (R133). The session record's timers stand as the times left, in seconds. -/
structure SessionImage where
  record : Option Serving
  boardLeft : Option Nat
  captureLeft : Option Nat
  times : DeckTimes
  roadCall : Option CallImage
  yardCall : Option CallImage
deriving DecidableEq, Repr

/-- A printer as READ_PRINTERS reports it (R164). -/
structure PrinterImage where
  printer : Printer
  waiting : Nat
  oldest : Option Nat
deriving DecidableEq, Repr

/-- The phase of the job in progress as READ_PRINTERS reports it (R164). -/
inductive JobProgress where
  | sending (bytes : Nat)
  | completing (left : Nat)
deriving DecidableEq, Repr

/-- The job in progress as READ_PRINTERS reports it (R164). -/
structure JobImage where
  printer : PrinterId
  slot : Nat
  ticket : Nat
  copy : Nat
  progress : JobProgress
deriving DecidableEq, Repr

/-- READ_PRINTERS' fields (R164). -/
structure PrintersImage where
  p1 : PrinterImage
  p2 : PrinterImage
  lastServed : PrinterId
  job : Option JobImage
  times : PrintTimes
deriving DecidableEq, Repr

/-- STATUS' fields (R178). -/
structure StatusImage where
  identity : BitVec 32
  silicon : Nat
  cause : ResetCause
  intact : Bool
  quiet : Bool
  wake : Option WakeCause
  latch : Bool
  emergencyInput : Bool
  deck1 : Availability
  deck2 : Availability
  nextTicket : Nat
  freeCount : Nat
  clock : Seconds
  clockSet : Bool
deriving DecidableEq, Repr

/-- The body of an answer, by its fields. -/
inductive Body where
  | empty
  | deck (image : DeckImage)
  | calPart0 (deck : DeckId) (record : Option CalRecord) (closed : Bool) (changes : Nat) (zSet : Int)
  | calPart1 (record : Option CalRecord)
  | visit (snapshot : Snapshot)
  | walkEnd
  | seekSlot (slot : Nat)
  | revision (revision : Revision)
  | vehicle (entry : Vehicle) (tareValid : Bool) (today : Nat)
  | tare (tare : Tare)
  | account (account : Account)
  | kind (code : Nat) (kind : Kind)
  | gateTimes (warn drive settle : Nat)
  | motion (barrier : Barrier) (request : Option MoveRequest)
  | barrier (barrier : Barrier)
  | gate (image : GateImage)
  | taken (slot : Nat)
  | waiting
  | reason (reason : CallReason)
  | captured (slot : Nat) (outcome : VisitOutcome)
  | stage (stage : Option Stage)
  | deckTimes (times : DeckTimes)
  | session (image : SessionImage)
  | latch (set : Bool)
  | printTimes (times : PrintTimes)
  | printer (state : PrinterState) (hold : Bool)
  | printers (image : PrintersImage)
  | notice (taken : Option (NoticeKind × Level × Detail)) (remaining : Nat)
  | dropped (count : Nat)
  | noticeSetting (enable : Bool) (level : Level)
  | notices (lines : List NoticeLine) (attn alert : Bool)
  | status (image : StatusImage)
  | site (maxStay : Nat) (tagWake loopWake : Bool)
deriving DecidableEq, Repr

/-- An answer in the answer buffer (R175): echoed kind, outcome, adjusted mark, overrun mark, body. -/
structure Answer where
  kind : Byte
  code : ReplyCode
  adjusted : Bool
  overrun : Bool
  body : Body
deriving DecidableEq, Repr

/-! ### The machine -/

/-- The Link Port beside its answer buffer: the request buffer, which holds the bytes received in the selection in
progress, and what NCS has been since the last reset: the port takes no frame until it has been seen inactive (R174;
log 7). -/
structure LinkPort where
  received : List Byte
  ncs : Ncs
deriving DecidableEq, Repr

/-- The state of the part. `pending` is the queue of commands that wait, first in, first out; `now` is the part's own
time base in microseconds; `powered` says that the main supply is up; `link` is the answer buffer (R175), `port` the rest of
the Link Port (R174). -/
structure State where
  pending : List Instr
  now : Nat
  powered : Bool
  link : Option Answer
  port : LinkPort
  decks : PerDeck Deck
  gates : PerGate Gate
  register : Register
  vehicles : List Vehicle
  accounts : List Account
  kinds : List Kind
  printing : Printing
  notices : List NoticeLine
  emergency : Emergency
  service : Service
deriving DecidableEq, Repr

/-- The reasons for which the part stops. It has none: every command of the table has an effect in every state, so
this type has no constructor and no meaning can answer a fault. -/
inductive Fault where
deriving DecidableEq, Repr

/-- The reasons for which the model gives a command no meaning. -/
inductive Refusal where
  /-- Raised by exec alone, for a row of the table whose meaning is not written yet; safe: the model stops where the
  part goes on. No arm raises it now. -/
  | notModelled (mnemonic : String)
deriving DecidableEq, Repr

/-! ### Reset values -/

/-- The reading record after any reset of a deck without a record (R17, R18). -/
def Reading.reset (a : Availability) : Reading :=
  { availability := a, status := .noStatus, net := 0, weight := 0, current := false, still := 0, track := 0,
    lastComplete := 0, raw := 0 }

/-- A Deck Weighing Unit after a reset: W_ref 0 with its mark absent (R12, R14, R17, R24). -/
def Weigher.reset (a : Availability) (zd : Int) (warmUp : Timer) : Weigher :=
  { reading := Reading.reset a, zd := zd, ref := 0, refPresent := false, warmUp := warmUp }

/-- A healthy cell (R24). -/
def Cell.healthy : Cell := { misses := 0, failed := false }

/-- A Cell Link Controller at a reset taken at `now` (R1, R4, R24): the first slot boundary is 50 ms ahead. -/
def CellLink.reset (now : Nat) : CellLink :=
  { slotDue := now + 50000, skip := 0, cells := List.replicate 8 Cell.healthy, cycle := none }

/-- The default deck timer settings (R132). -/
def DeckTimes.default : DeckTimes := { boardTime := 90, captureTime := 120, callWait := 60 }

/-- The Link Port after a reset with NCS inactive (R174). -/
def LinkPort.rest : LinkPort := { received := [], ncs := .inactive }

/-- A deck after a power-on that found retention lost (R18, R24, R28, R112, R132). -/
def Deck.initial : Deck :=
  { cal := { record := none, changes := 0, zSet := 0 }
    cells := CellLink.reset 0
    unit := Weigher.reset .uncalibrated 0 none
    session := none
    times := DeckTimes.default }

/-- A gate channel after a reset with its down switch ACTIVE and its loop CLEAR, with the default timing settings
(R90, R91, R108). -/
def Gate.initial : Gate :=
  { barrier := .down, request := none, locked := true, pass := false, occupied := false, upSwitch := false
    downSwitch := true, memory := none, drops := 0, waiting := none, warnTime := 4, driveLimit := 6, settleTime := 2 }

/-- A FREE slot at revision 0 (R40). -/
def Slot.initial : Slot := { revision := 0, visit := none }

/-- The walk cursor after any reset (R53). -/
def Cursor.reset : Cursor := { position := 0, step := .up, filter := .anyNonFree, buffer := none }

/-- The Visit Register after a power-on that found retention lost (R40, R49, R53). -/
def Register.initial : Register :=
  { slots := List.replicate 128 Slot.initial, nextTicket := 1, cursor := Cursor.reset }

/-- A waste kind after retention loss (R83). -/
def Kind.initial : Kind := { accepted := false, directions := .both, rate := 0, minimum := 0 }

/-- The default print timing settings (R151). -/
def PrintTimes.default : PrintTimes := { setup := 2, strobe := 4, hold := 1, completion := 20 }

/-- A printer after any reset with the input levels sampled (R152). -/
def Printer.reset (pins : PrinterPins) : Printer :=
  { state := .inService, hold := false, lastFault := none, pins := pins }

/-- Input levels of a printer at rest. -/
def PrinterPins.rest : PrinterPins := { busy := false, fault := false, done := false }

/-- The Print Controller after a reset with its inputs at rest and the default settings (R151, R152). -/
def Printing.initial : Printing :=
  { printers := { p1 := Printer.reset PrinterPins.rest, p2 := Printer.reset PrinterPins.rest }
    lastServed := .p2, times := PrintTimes.default, job := none }

/-- The order number of a notice kind (R167). -/
def NoticeKind.order : NoticeKind → Nat
  | .emergency => 0 | .retentionLost => 1 | .deckFault => 2 | .barrierFault => 3 | .printerFault => 4
  | .zeroDrift => 5 | .captureTimeout => 6 | .callRefused => 7 | .callExpired => 8 | .visitHeld => 9
  | .accountStopped => 10 | .overStay => 11 | .yardNearlyFull => 12 | .collectWaiting => 13 | .woken => 14
  | .restarted => 15

/-- The notice kinds by order number (R167). -/
def NoticeKind.all : List NoticeKind :=
  [.emergency, .retentionLost, .deckFault, .barrierFault, .printerFault, .zeroDrift, .captureTimeout, .callRefused,
   .callExpired, .visitHeld, .accountStopped, .overStay, .yardNearlyFull, .collectWaiting, .woken, .restarted]

/-- The default level of a notice kind (R167). -/
def NoticeKind.defaultLevel : NoticeKind → Level
  | .emergency | .retentionLost | .deckFault | .barrierFault | .printerFault => .urgent
  | _ => .routine

/-- The reset contents of the pending set (R173): RESTARTED with the cause, and RETENTION_LOST when a power-on found
retention lost. -/
def resetDetail (cause : ResetCause) (lost : Bool) : NoticeKind → Option Detail
  | .restarted => some (.reset cause)
  | .retentionLost => if lost then some .nothing else none
  | _ => none

/-- The Notice Unit after a reset (R168, R173): every enable on, every level its default, the reset contents. -/
def noticesAtReset (cause : ResetCause) (lost : Bool) : List NoticeLine :=
  NoticeKind.all.map fun k => { enable := true, level := k.defaultLevel, detail := resetDetail cause lost k }

/-- The Service Unit after a power-on that found retention lost (R144, R179 to R182). -/
def Service.initial : Service :=
  { clock := 0, clockSet := false, secondDue := 1000000, mark := true, intact := false, cause := .powerOn
    quiet := false, wake := none, maxStay := 4, tagWake := true, loopWake := true }

/-- The part right after a power-on that found retention lost, with every input pin at rest: loops CLEAR, barriers at
their down switches, EMERG inactive, printers idle (log 1). -/
def State.reset : State :=
  { pending := []
    now := 0
    powered := true
    link := none
    port := LinkPort.rest
    decks := { d1 := Deck.initial, d2 := Deck.initial }
    gates := { g1R := Gate.initial, g1Y := Gate.initial, g2R := Gate.initial, g2Y := Gate.initial }
    register := Register.initial
    vehicles := []
    accounts := []
    kinds := List.replicate 32 Kind.initial
    printing := Printing.initial
    notices := noticesAtReset .powerOn true
    emergency := { latch := false, input := false }
    service := Service.initial }

end Sys2Proof.Machine
end

