-- ==== Sys2Proof/Machine/Ops.lean ====
section
/-! DEFINITION. Ops: how a meaning reads and writes the parts of State (decks, gates, slots, tables, notices), and
the two frames of a command: a request of the link, answered, and an event of the equipment. -/

namespace Sys2Proof

/-- The value of one deck. -/
def PerDeck.get {α : Type} (p : PerDeck α) : DeckId → α
  | .d1 => p.d1
  | .d2 => p.d2

/-- The values with one deck's replaced. -/
def PerDeck.set {α : Type} (p : PerDeck α) (d : DeckId) (x : α) : PerDeck α :=
  match d with
  | .d1 => { p with d1 := x }
  | .d2 => { p with d2 := x }

/-- The value of one gate. -/
def PerGate.get {α : Type} (p : PerGate α) : GateId → α
  | .g1R => p.g1R
  | .g1Y => p.g1Y
  | .g2R => p.g2R
  | .g2Y => p.g2Y

/-- The values with one gate's replaced. -/
def PerGate.set {α : Type} (p : PerGate α) (g : GateId) (x : α) : PerGate α :=
  match g with
  | .g1R => { p with g1R := x }
  | .g1Y => { p with g1Y := x }
  | .g2R => { p with g2R := x }
  | .g2Y => { p with g2Y := x }

/-- The value of one printer. -/
def PerPrinter.get {α : Type} (p : PerPrinter α) : PrinterId → α
  | .p1 => p.p1
  | .p2 => p.p2

/-- The values with one printer's replaced. -/
def PerPrinter.set {α : Type} (p : PerPrinter α) (i : PrinterId) (x : α) : PerPrinter α :=
  match i with
  | .p1 => { p with p1 := x }
  | .p2 => { p with p2 := x }

/-- The deck a gate belongs to (spec/00 section 2.1). -/
def GateId.deck : GateId → DeckId
  | .g1R | .g1Y => .d1
  | .g2R | .g2Y => .d2

/-- The end of the deck a gate stands at (spec/00 section 2.1). -/
def GateId.side : GateId → GateEnd
  | .g1R | .g2R => .road
  | .g1Y | .g2Y => .yard

/-- The gate at one end of a deck (spec/00 section 2.1). -/
def DeckId.gate : DeckId → GateEnd → GateId
  | .d1, .road => .g1R
  | .d1, .yard => .g1Y
  | .d2, .road => .g2R
  | .d2, .yard => .g2Y

/-- The printer that stands at a deck (spec/00 section 2.1). -/
def DeckId.printer : DeckId → PrinterId
  | .d1 => .p1
  | .d2 => .p2

/-- The other printer. -/
def PrinterId.other : PrinterId → PrinterId
  | .p1 => .p2
  | .p2 => .p1

/-- The other end of a deck. -/
def GateEnd.other : GateEnd → GateEnd
  | .road => .yard
  | .yard => .road

namespace Machine

/-- What a command answers. -/
abbrev Result := Host.Outcome State Fault Refusal

/-! ### Lists in key order -/

/-- The entry put at its place in a list in rising key order; an entry of the same key is replaced. -/
def insertBy {α : Type} (key : α → Nat) (x : α) : List α → List α
  | [] => [x]
  | y :: ys =>
    if key x < key y then x :: y :: ys
    else if key x = key y then x :: ys
    else y :: insertBy key x ys

/-! ### Decks and gates -/

/-- One deck. -/
def State.deck (s : State) (d : DeckId) : Deck := s.decks.get d

/-- One deck replaced. -/
def State.setDeck (s : State) (d : DeckId) (x : Deck) : State := { s with decks := s.decks.set d x }

/-- The session of one deck replaced. -/
def State.setSession (s : State) (d : DeckId) (x : Option Serving) : State :=
  s.setDeck d { s.deck d with session := x }

/-- The weighing unit of one deck replaced. -/
def State.setUnit (s : State) (d : DeckId) (u : Weigher) : State := s.setDeck d { s.deck d with unit := u }

/-- The cell link of one deck replaced. -/
def State.setCells (s : State) (d : DeckId) (c : CellLink) : State := s.setDeck d { s.deck d with cells := c }

/-- One gate. -/
def State.gate (s : State) (g : GateId) : Gate := s.gates.get g

/-- One gate replaced. -/
def State.setGate (s : State) (g : GateId) (x : Gate) : State := { s with gates := s.gates.set g x }

/-- The waiting call of one gate dropped. -/
def State.dropWaiting (s : State) (g : GateId) : State := s.setGate g { s.gate g with waiting := none }

/-- The pass flag of one gate written (R103). -/
def State.setPass (s : State) (g : GateId) (b : Bool) : State := s.setGate g { s.gate g with pass := b }

/-! ### Notices -/

/-- A raising that reaches one line of the Notice Unit (R169): ignored while the kind is off, else the detail stands. -/
def NoticeLine.take (l : NoticeLine) (detail : Detail) : NoticeLine :=
  if l.enable then { l with detail := some detail } else l

/-- A raising (R169). -/
def State.raise (s : State) (kind : NoticeKind) (detail : Detail) : State :=
  { s with notices := s.notices.modify kind.order fun l => l.take detail }

/-! ### Slots -/

/-- One slot. -/
def State.slot (s : State) (n : Nat) : Slot := s.register.slots.getD n Slot.initial

/-- The visit of one slot, none when the slot is FREE. -/
def State.visit (s : State) (n : Nat) : Option Visit := (s.slot n).visit

/-- A slot after an event that leaves it with this visit: the revision increments, with wrap, if and only if
something in the slot changes (R40). -/
def Slot.write (sl : Slot) (v : Option Visit) : Slot :=
  if sl.visit = v then sl else { revision := sl.revision + 1, visit := v }

/-- The write of one slot (R40). -/
def State.writeSlot (s : State) (n : Nat) (v : Option Visit) : State :=
  { s with register := { s.register with slots := s.register.slots.modify n fun sl => sl.write v } }

/-- The first slot whose visit has a property. -/
def State.findSlot (s : State) (p : Visit → Bool) : Option Nat :=
  s.register.slots.findIdx? fun sl => sl.visit.any p

/-- The lowest-numbered FREE slot (R45). -/
def State.lowestFree (s : State) : Option Nat := s.register.slots.findIdx? fun sl => sl.visit.isNone

/-! ### Tables -/

/-- The vehicle entry of a tag (R67). -/
def State.vehicle (s : State) (t : Tag) : Option Vehicle := s.vehicles.find? fun v => v.tag == t

/-- The entry of a vehicle written: created, or replaced in place (R70). -/
def State.putVehicle (s : State) (v : Vehicle) : State :=
  { s with vehicles := insertBy (fun x => x.tag.toNat) v s.vehicles }

/-- The account of a number (R74). -/
def State.account (s : State) (n : AccountNo) : Option Account := s.accounts.find? fun a => a.number == n

/-- An account written: created, or replaced in place (R76). -/
def State.putAccount (s : State) (a : Account) : State :=
  { s with accounts := insertBy (fun x => x.number.toNat) a s.accounts }

/-- The fields of the account of a number changed; nothing where there is none. -/
def State.changeAccount (s : State) (n : AccountNo) (f : Account → Account) : State :=
  { s with accounts := s.accounts.map fun a => if a.number = n then f a else a }

/-- The waste kind of a code 1 … 32 (R83). -/
def State.kind (s : State) (code : Nat) : Kind := s.kinds.getD (code - 1) Kind.initial

/-! ### Time -/

/-- The part's own time base at or past a moment: what a timer's lapse brings with it (log 3). -/
def State.reach (s : State) (due : Nat) : State := { s with now := max s.now due }

/-- An arrival stamp: the part's own time base in whole milliseconds (R114). -/
def State.stamp (s : State) : Nat := s.now / 1000

/-- A number of microseconds from now. -/
def State.inMicros (s : State) (n : Nat) : Nat := s.now + n

/-- A number of seconds from now. -/
def State.inSeconds (s : State) (n : Nat) : Nat := s.now + n * 1000000

/-! ### The two frames of a command -/

/-- What the owning block gives for an answer: outcome, adjusted mark and body (R175). -/
structure Reply where
  code : ReplyCode
  adjusted : Bool := false
  body : Body := .empty
deriving DecidableEq, Repr

/-- A refused answer without a body (R177). -/
def Reply.bare (c : ReplyCode) : Reply := { code := c }

/-- A DONE answer with a body (R177). -/
def Reply.done (b : Body) : Reply := { code := .done, body := b }

/-- The answer written to the buffer for a request of a kind (R175). -/
def Reply.toAnswer (r : Reply) (kind : Byte) : Answer :=
  { kind := kind, code := r.code, adjusted := r.adjusted, overrun := false, body := r.body }

/-- What becomes of a frame that completes (R175, R176): with the buffer empty it is performed and its answer is
written; with an unread answer only that answer's overrun mark becomes set. -/
def State.answering (s : State) (kind : Byte) (perform : State → State × Reply) : State :=
  match s.link with
  | some a => { s with link := some { a with overrun := true } }
  | none => { (perform s).1 with link := some ((perform s).2.toAnswer kind) }

/-- NCS has been seen inactive since the last reset (R174). -/
def State.sawInactive (s : State) : State := { s with port := { s.port with ncs := .inactive } }

/-- What becomes of a selection of the link whose command is handed over whole (R174; log 7). Where a selection with its
frame unfinished spans the end of a reset, the command is that frame: it is ignored whole, and its end is NCS seen inactive.
Where the selection that spans it had finished its frame, the command comes from a later one. -/
def State.taking (s : State) (f : State → State) : State :=
  match s.port.ncs with
  | .inactive => f s
  | .unfinished => s.sawInactive
  | .finished => f s.sawInactive

/-- A selection of the link. With the main supply off the part takes none (log 5). -/
def selection (f : State → State) (s : State) : Result := .next (if s.powered then s.taking f else s)

/-- A request of the link (R175, R176). -/
def request (kind : Byte) (perform : State → State × Reply) (s : State) : Result :=
  selection (fun s => s.answering kind perform) s

/-- A request that changes no state but the answer buffer. -/
def query (kind : Byte) (answer : State → Reply) (s : State) : Result :=
  request kind (fun s => (s, answer s)) s

/-- An event of the equipment, a timer or a bus. With the main supply off it has no effect (log 5). -/
def event (f : State → State) (s : State) : Result := .next (if s.powered then f s else s)

end Machine
end Sys2Proof
end

