-- ==== Sys2Proof/Machine/Operands.lean ====
section
/-! DEFINITION. Operands: the codes, keys, plates and ranges of request fields (R44, R184, R186). A value without a
code reads as none. -/

namespace Sys2Proof.Machine

open Sys2Proof

/-- Deck codes (R184). -/
def deckOf (b : Byte) : Option DeckId := if b = 1 then some .d1 else if b = 2 then some .d2 else none

/-- Gate codes (R184). -/
def gateOf (b : Byte) : Option GateId :=
  if b = 1 then some .g1R else if b = 2 then some .g1Y else if b = 3 then some .g2R
  else if b = 4 then some .g2Y else none

/-- Printer codes (R184). -/
def printerOf (b : Byte) : Option PrinterId := if b = 1 then some .p1 else if b = 2 then some .p2 else none

/-- Print target codes; the inner none is the target NONE (R184). -/
def targetOf (b : Byte) : Option (Option PrinterId) := if b = 0 then some none else (printerOf b).map some

/-- Direction codes of a vehicle or a visit (R184). -/
def directionOf (b : Byte) : Option Direction :=
  if b = 1 then some .deliver else if b = 2 then some .collect else none

/-- Direction codes of a waste kind (R184). -/
def kindDirectionsOf (b : Byte) : Option KindDirections :=
  if b = 1 then some .deliver else if b = 2 then some .collect else if b = 3 then some .both else none

/-- A yes/no or an on/off field (R184). -/
def flagOf (b : Byte) : Option Bool := if b = 0 then some false else if b = 1 then some true else none

/-- Walk step codes (R184). -/
def stepOf (b : Byte) : Option WalkStep :=
  if b = 1 then some .up else if b = 2 then some .down else if b = 3 then some .stay else none

/-- Walk filter codes (R184). -/
def filterOf (b : Byte) : Option WalkFilter :=
  if b = 0 then some (.named .free) else if b = 1 then some (.named .arriving) else if b = 2 then some (.named .onSite)
  else if b = 3 then some (.named .departing) else if b = 4 then some (.named .held)
  else if b = 5 then some (.named .closed) else if b = 6 then some .anyNonFree else none

/-- Level codes of a notice kind (R184). -/
def levelOf (b : Byte) : Option Level := if b = 1 then some .urgent else if b = 2 then some .routine else none

/-- Notice kind codes: the order numbers (R167, R184). -/
def noticeKindOf (b : Byte) : Option NoticeKind := NoticeKind.all[b.toNat]?

/-- Vehicle state codes, as the BARRED mark (R184). -/
def barredOf (b : Byte) : Option Bool := if b = 1 then some false else if b = 2 then some true else none

/-- What PUT_VEHICLE does with the stored tare (R69, R70). -/
inductive TareMode where
  | keep | set | clear
deriving DecidableEq, Repr

/-- Tare mode codes (R184). -/
def tareModeOf (b : Byte) : Option TareMode :=
  if b = 1 then some .keep else if b = 2 then some .set else if b = 3 then some .clear else none

/-- A slot number 0 … 127 (R40). -/
def slotOf (b : Byte) : Option Nat := if b.toNat < 128 then some b.toNat else none

/-- A waste kind code 1 … 32 (R83). -/
def kindCodeOf (b : Byte) : Option Nat := if 1 ≤ b.toNat ∧ b.toNat ≤ 32 then some b.toNat else none

/-- A tag of a request, none for 0 (R44). -/
def tagOf (t : Tag) : Option Tag := if t = 0 then none else some t

/-- An account of a record, none for 0: a cash visit (R56, R114). -/
def accountOf (n : AccountNo) : Option AccountNo := if n = 0 then none else some n

/-! ### Plates (R44, R184) -/

/-- The characters of a plate field: the spaces after the last character are not characters (R184). -/
def plateChars (field : List Byte) : List Byte := (field.reverse.dropWhile (· == 0x20)).reverse

/-- A lower-case letter folded to its upper-case letter (R44). -/
def foldChar (c : Byte) : Byte := if 0x61 ≤ c.toNat ∧ c.toNat ≤ 0x7A then c - 0x20 else c

/-- A character a plate may hold: A–Z or 0–9 (R44). -/
def plateChar (c : Byte) : Bool :=
  (0x41 ≤ c.toNat && c.toNat ≤ 0x5A) || (0x30 ≤ c.toNat && c.toNat ≤ 0x39)

/-- The plate a field carries, folded; none where R44 refuses it. -/
def plateOf (field : List Byte) : Option Plate :=
  let p := (plateChars field).map foldChar
  if 1 ≤ p.length ∧ p.length ≤ 10 ∧ p.all plateChar then some p else none

/-! ### Keys of FIND, GET_VEHICLE and CALL (R186) -/

/-- A slot in the first byte of a key. -/
def keySlot (key : List Byte) : Option Nat := slotOf (byteAt key 0)

/-- A tag in the first four bytes of a key. -/
def keyTag (key : List Byte) : Option Tag := tagOf (fieldAt 32 key 0 4)

/-- A ticket number 1 … 99,999,999 in the first four bytes of a key. -/
def keyTicket (key : List Byte) : Option Nat :=
  let n := (fieldAt 32 key 0 4).toNat
  if 1 ≤ n ∧ n ≤ 99999999 then some n else none

/-- A signed offset in the first byte of a key. -/
def keyOffset (key : List Byte) : Int := (byteAt key 0).toInt

/-! ### Clamped settings -/

/-- A value replaced by the nearest end of its range when it lies outside (spec/00 section 2.3). -/
def clamp (lo hi v : Nat) : Nat := max lo (min hi v)

/-- The value of a clamped one-byte or two-byte setting lies outside its range. -/
def clamped (lo hi v : Nat) : Bool := clamp lo hi v != v

/-- A saturating balance (R74). -/
def saturate (x : Int) : Int := max (-2147483648) (min 2147483647 x)

end Sys2Proof.Machine
end

