-- ==== Sys2Proof/Machine/Flags.lean ====
section
/-! DEFINITION. Flags: the values the spec computes from other state and the model therefore does not store: poll
rate, stability, light, lines and outputs, counts and ages (log 9). -/

namespace Sys2Proof.Machine

open Sys2Proof

/-! ### Deck Weighing -/

/-- The stable flag: status VALID and the stillness count at least N_s (R13). -/
def Deck.stable (k : Deck) : Bool :=
  match k.cal.record with
  | some r => k.unit.reading.status == .valid && decide (r.stableCount ≤ k.unit.reading.still)
  | none => false

/-- The reported weight is at or above the occupancy threshold (R115, R122, R128). -/
def Deck.loaded (k : Deck) : Bool :=
  match k.cal.record with
  | some r => decide ((r.threshold : Int) ≤ k.unit.reading.weight)
  | none => false

/-- The reported weight is not above Max (R73, R124). -/
def Deck.withinMax (k : Deck) : Bool :=
  match k.cal.record with
  | some r => decide (k.unit.reading.weight ≤ (r.max : Int))
  | none => false

/-- The division of a deck; 1 kg without a record (R39, R48). -/
def Deck.division (k : Deck) : Nat :=
  match k.cal.record with
  | some r => r.division
  | none => 1

/-- The cell at an address is in the enabled set (R27). -/
def CalRecord.enabled (r : CalRecord) (i : Nat) : Bool := r.cells.getLsbD i

/-- The addresses of the enabled set, ascending (R1). -/
def CalRecord.enabledCells (r : CalRecord) : List Nat := (List.range 8).filter r.enabled

/-- One cell of a cell link. -/
def CellLink.cell (c : CellLink) (i : Nat) : Cell := c.cells.getD i Cell.healthy

/-- A loop of a deck's two gates is OCCUPIED (R4, R15, R124). -/
def State.loopOccupied (s : State) (d : DeckId) : Bool :=
  (s.gate (d.gate .road)).occupied || (s.gate (d.gate .yard)).occupied

/-- The poll rate (R4). -/
def State.pollRate (s : State) (d : DeckId) : PollRate :=
  if (s.deck d).session.isSome || s.loopOccupied d then .full else .reduced

/-- Cycles run: READY, FAULT, or WARMING after the warm-up timer has lapsed (R1). -/
def Weigher.cycling (u : Weigher) : Bool :=
  match u.reading.availability with
  | .ready | .fault => true
  | .warming => u.warmUp.isNone
  | _ => false

/-- The READ frame outstanding on a deck's cell link: the address whose answer window is open (R2). -/
def State.readOutstanding (s : State) (d : DeckId) : Option Nat := (s.deck d).cells.cycle.map (·.awaiting)

/-! ### Gates -/

/-- The light is GREEN: the barrier is UP with the pass flag yes, or FORCED (R103). -/
def Gate.green (g : Gate) : Bool :=
  match g.barrier with
  | .up => g.pass
  | .forced => true
  | _ => false

/-- MOT_UP is on (R92). -/
def Gate.motorUp (g : Gate) : Bool :=
  match g.barrier with
  | .raising .drive _ _ _ => true
  | _ => false

/-- MOT_DN is on (R92). -/
def Gate.motorDown (g : Gate) : Bool :=
  match g.barrier with
  | .lowering .drive _ _ => true
  | _ => false

/-- BEACON is on (R92). -/
def Gate.beacon (g : Gate) : Bool :=
  match g.barrier with
  | .raising .settle _ _ _ => false
  | .lowering .settle _ _ => false
  | .raising _ _ _ _ => true
  | .lowering _ _ _ => true
  | _ => false

/-! ### Visit Register -/

/-- The name of a visit state (R41). -/
def VisitState.name : VisitState → VisitName
  | .arriving _ => .arriving
  | .onSite _ => .onSite
  | .departing _ _ => .departing
  | .held _ _ _ _ => .held
  | .closed _ => .closed

/-- The name of a slot's state (R41). -/
def Slot.name (sl : Slot) : VisitName :=
  match sl.visit with
  | none => .free
  | some v => v.state.name

/-- The open states (R41). -/
def Visit.isOpen (v : Visit) : Bool :=
  match v.state with
  | .arriving _ | .onSite _ | .departing _ _ => true
  | _ => false

/-- A CLOSED visit (R41). -/
def Visit.isClosed (v : Visit) : Bool :=
  match v.state with
  | .closed _ => true
  | _ => false

/-- The ticket of a CLOSED visit. -/
def Visit.ticket (v : Visit) : Option Ticket :=
  match v.state with
  | .closed t => some t
  | _ => none

/-- The session deck of a visit (R42). -/
def Visit.sessionDeck (v : Visit) : Option DeckId :=
  match v.state with
  | .arriving d => some d
  | .departing d _ => some d
  | _ => none

/-- The free count (R40). -/
def State.freeCount (s : State) : Nat := s.register.slots.countP fun sl => sl.visit.isNone

/-- The number of open visits that carry an account (R75). -/
def State.openOn (s : State) (n : AccountNo) : Nat :=
  s.register.slots.countP fun sl => sl.visit.any fun v => v.isOpen && v.account == some n

/-- A kind allows a direction (R83). -/
def Kind.allows (k : Kind) (d : Direction) : Bool :=
  match k.directions, d with
  | .both, _ => true
  | .deliver, .deliver => true
  | .collect, .collect => true
  | _, _ => false

/-- The day number of a clock value (R179). -/
def dayOf (clock : Seconds) : Nat := clock.toNat / 86400

/-- A stored tare is valid on a day: present, not later than the day, and younger than the validity (R68). -/
def Vehicle.tareValid (v : Vehicle) (today : Nat) : Bool :=
  match v.tare with
  | none => false
  | some t => decide (t.day ≤ today) && decide (today - t.day < v.validity)

/-! ### Ticket Printing -/

/-- The age of a ticket number against the next-ticket counter (R153). -/
def ticketAge (counter n : Nat) : Nat := if n < counter then counter - n else counter + 99999999 - n

/-- A slot holds a waiting ticket of a printer (R153). -/
def Slot.waitsFor (sl : Slot) (p : PrinterId) : Bool :=
  match sl.visit.bind Visit.ticket with
  | some t => t.target == some p && t.mark == .unprinted
  | none => false

/-- The number of waiting tickets of a printer (R153, R164). -/
def State.waitingCount (s : State) (p : PrinterId) : Nat := s.register.slots.countP fun sl => sl.waitsFor p

/-- The oldest of a printer's waiting tickets among slots numbered from `i`, as slot and ticket number (R153). -/
def oldestFrom (p : PrinterId) (counter : Nat) : List Slot → Nat → Option (Nat × Nat)
  | [], _ => none
  | sl :: rest, i =>
    match sl.visit.bind Visit.ticket with
    | some t =>
      if t.target == some p && t.mark == .unprinted then
        match oldestFrom p counter rest (i + 1) with
        | some (j, n) => if ticketAge counter t.number < ticketAge counter n then some (j, n) else some (i, t.number)
        | none => some (i, t.number)
      else oldestFrom p counter rest (i + 1)
    | none => oldestFrom p counter rest (i + 1)

/-- The oldest waiting ticket of a printer, as slot and ticket number (R153). -/
def State.oldestWaiting (s : State) (p : PrinterId) : Option (Nat × Nat) :=
  oldestFrom p s.register.nextTicket s.register.slots 0

/-- A printer's select line is active: its job is in the transfer (R150, R156). -/
def Printing.selected (c : Printing) (p : PrinterId) : Bool :=
  match c.job with
  | some j => j.printer == p && (match j.phase with | .completing _ => false | _ => true)
  | none => false

/-- PSTB is active (R156). -/
def Printing.strobe (c : Printing) : Bool :=
  match c.job with
  | some j => match j.phase with
    | .strobe _ => true
    | _ => false
  | none => false

/-- The byte on PD (R150, R156): the byte being sent; in the wait for BUSY the byte before it (section 8.14), and 0
before the first byte, without a job and after deselection. -/
def Printing.data (c : Printing) : Byte :=
  match c.job with
  | some j => match j.phase with
    | .setup _ | .strobe _ | .hold _ => byteAt j.frame j.sent
    | .waitBusy _ => if j.sent = 0 then 0 else byteAt j.frame (j.sent - 1)
    | .completing _ => 0
  | none => 0

/-! ### Notices and link -/

/-- ATTN: the pending set holds a kind (R170). -/
def State.attn (s : State) : Bool := s.notices.any fun l => l.detail.isSome

/-- ALERT: the pending set holds a kind whose level is URGENT (R170). -/
def State.alert (s : State) : Bool := s.notices.any fun l => l.detail.isSome && l.level == .urgent

/-- READY: the answer buffer holds an unread answer (R175). -/
def State.ready (s : State) : Bool := s.link.isSome

end Sys2Proof.Machine
end

