-- ==== Sys2Proof/Machine/Barrier.lean ====
section
/-! DEFINITION. Barrier: the motion rules of one gate channel (R92 to R108), as operations on its record alone. `now`
is the part's own time base at the event. -/

namespace Sys2Proof.Machine

open Sys2Proof

/-- The moment the warn time from now ends (R91, R93). -/
def Gate.warnDue (g : Gate) (now : Nat) : Nat := now + g.warnTime * 500000

/-- The moment the drive limit from now lapses (R91, R93). -/
def Gate.driveDue (g : Gate) (now : Nat) : Nat := now + g.driveLimit * 1000000

/-- The moment the settle time from now ends (R91, R93). -/
def Gate.settleDue (g : Gate) (now : Nat) : Nat := now + g.settleTime * 500000

/-! ### Lowering motions (R93, R96) -/

/-- The end of a lowering: DOWN, with no pending request (R96). -/
def Gate.arriveDown (g : Gate) : Gate := { g with barrier := .down, request := none }

/-- Lowering SETTLE begins; a settle time of 0 ends it at once (R93). -/
def Gate.lowerSettle (g : Gate) (now : Nat) (o : Origin) : Gate :=
  if g.settleTime = 0 then g.arriveDown else { g with barrier := .lowering .settle o (g.settleDue now) }

/-- Lowering DRIVE begins; it ends at once with the down switch ACTIVE (R93). -/
def Gate.lowerDrive (g : Gate) (now : Nat) (o : Origin) : Gate :=
  if g.downSwitch then g.lowerSettle now o else { g with barrier := .lowering .drive o (g.driveDue now) }

/-- A lowering begins in WARN; a warn time of 0 passes straight to DRIVE (R93). -/
def Gate.beginLower (g : Gate) (now : Nat) (o : Origin) : Gate :=
  if g.warnTime = 0 then g.lowerDrive now o else { g with barrier := .lowering .warn o (g.warnDue now) }

/-! ### Raising motions (R93, R97) -/

/-- A barrier at UP examines its pending request (R97). -/
def Gate.restUp (g : Gate) (now : Nat) : Gate :=
  match g.request with
  | some ⟨.lower, o⟩ =>
    if g.occupied then { g with barrier := .up } else { g with request := none }.beginLower now o
  | _ => { g with barrier := .up }

/-- Raising SETTLE begins; a settle time of 0 ends it at once (R93). -/
def Gate.raiseSettle (g : Gate) (now : Nat) (o : Origin) : Gate :=
  if g.settleTime = 0 then g.restUp now else { g with barrier := .raising .settle o (g.settleDue now) false }

/-- The up switch is reached in raising DRIVE: SETTLE, or FORCED in a forced DRIVE (R93, R105). -/
def Gate.reachUp (g : Gate) (now : Nat) (o : Origin) (forced : Bool) : Gate :=
  if forced then { g with barrier := .forced } else g.raiseSettle now o

/-- Raising DRIVE begins; it ends at once with the up switch ACTIVE (R93, R105). -/
def Gate.raiseDrive (g : Gate) (now : Nat) (o : Origin) (forced : Bool) : Gate :=
  if g.upSwitch then g.reachUp now o forced else { g with barrier := .raising .drive o (g.driveDue now) forced }

/-- A raising begins in WARN; a warn time of 0 passes straight to DRIVE (R93). -/
def Gate.beginRaise (g : Gate) (now : Nat) (o : Origin) : Gate :=
  if g.warnTime = 0 then g.raiseDrive now o false else { g with barrier := .raising .warn o (g.warnDue now) false }

/-! ### Requests (R94, R95) -/

/-- The pending request without a LOWER. -/
def withoutLower : Option MoveRequest → Option MoveRequest
  | some ⟨.lower, _⟩ => none
  | r => r

/-- The pending request without a RAISE. -/
def withoutRaise : Option MoveRequest → Option MoveRequest
  | some ⟨.raise, _⟩ => none
  | r => r

/-- A raise request (R94, R102). -/
def Gate.raiseRequest (g : Gate) (now : Nat) (o : Origin) : Gate :=
  match g.barrier with
  | .down =>
    if o = .session ∧ g.locked then { g with request := some ⟨.raise, o⟩ }
    else { g with request := none }.beginRaise now o
  | .raising _ _ _ _ | .up => { g with request := withoutLower g.request }
  | .lowering _ _ _ => { g with request := none }.raiseDrive now o false
  | .forced => g
  | .fault => { g with request := some ⟨.raise, o⟩ }

/-- A lower request (R95). A forced DRIVE absorbs it (R105). -/
def Gate.lowerRequest (g : Gate) (now : Nat) (o : Origin) : Gate :=
  match g.barrier with
  | .down => { g with request := withoutRaise g.request }
  | .raising _ _ _ true => g
  | .raising _ _ _ false => { g with request := some ⟨.lower, o⟩ }
  | .up =>
    if g.occupied then { g with request := some ⟨.lower, o⟩ } else { g with request := none }.beginLower now o
  | .lowering _ _ _ | .forced => g
  | .fault => { g with request := some ⟨.lower, o⟩ }

/-! ### Phase timers (R93, R100) -/

/-- The pending request that a fault leaves (R100): the motion's own request, unless one of the other kind is pending;
a forced DRIVE and a rest leave it as it was. -/
def Gate.faultRequest (g : Gate) : Option MoveRequest :=
  match g.barrier with
  | .raising _ o _ false =>
    match g.request with
    | some ⟨.lower, p⟩ => some ⟨.lower, p⟩
    | _ => some ⟨.raise, o⟩
  | .lowering _ o _ =>
    match g.request with
    | some ⟨.raise, p⟩ => some ⟨.raise, p⟩
    | _ => some ⟨.lower, o⟩
  | _ => g.request

/-- The barrier enters FAULT (R100). -/
def Gate.toFault (g : Gate) : Gate := { g with barrier := .fault, request := g.faultRequest }

/-- The moment the phase timer of a phase lapses, while it runs (R90). -/
def Gate.phaseDue (g : Gate) (p : Phase) : Option Nat :=
  match g.barrier with
  | .raising q _ due _ => if q = p then some due else none
  | .lowering q _ due => if q = p then some due else none
  | _ => none

/-- The warn timer lapses: DRIVE begins (R93). -/
def Gate.warnLapse (g : Gate) (now : Nat) : Gate :=
  match g.barrier with
  | .raising .warn o _ f => g.raiseDrive now o f
  | .lowering .warn o _ => g.lowerDrive now o
  | _ => g

/-- The drive limit lapses before the target switch: FAULT (R100). -/
def Gate.driveLapse (g : Gate) : Gate :=
  match g.barrier with
  | .raising .drive _ _ _ => g.toFault
  | .lowering .drive _ _ => g.toFault
  | _ => g

/-- The settle timer lapses: arrival at UP or at DOWN (R93, R96, R97). -/
def Gate.settleLapse (g : Gate) (now : Nat) : Gate :=
  match g.barrier with
  | .raising .settle _ _ _ => g.restUp now
  | .lowering .settle _ _ => g.arriveDown
  | _ => g

/-! ### Loop and switches (R97 to R100) -/

/-- A change of the loop state: the loop guard (R99), and a LOWER that waits at UP (R97). -/
def Gate.loopChange (g : Gate) (now : Nat) (occupied : Bool) : Gate :=
  let g' := { g with occupied := occupied }
  match g.barrier, occupied with
  | .lowering .warn o _, true => { g' with request := some ⟨.lower, o⟩ }.raiseDrive now o false
  | .lowering .drive o _, true => { g' with request := some ⟨.lower, o⟩ }.raiseDrive now o false
  | .up, false => g'.restUp now
  | _, _ => g'

/-- The qualified level of one limit switch written. -/
def Gate.setSwitch (g : Gate) (w : LimitSwitch) (active : Bool) : Gate :=
  match w with
  | .up => { g with upSwitch := active }
  | .down => { g with downSwitch := active }

/-- A change of one limit switch contradicts the barrier's state (R100). -/
def Gate.contradicts (g : Gate) (w : LimitSwitch) (active : Bool) : Bool :=
  let g' := g.setSwitch w active
  let both := g'.upSwitch && g'.downSwitch
  let downLost := w == .down && !active
  let upLost := w == .up && !active
  match g.barrier with
  | .down | .raising .warn _ _ _ => downLost || both
  | .up | .forced | .lowering .warn _ _ => upLost || both
  | .raising .drive _ _ _ | .lowering .drive _ _ => both
  | .raising .settle _ _ _ => upLost || both
  | .lowering .settle _ _ => downLost || both
  | .fault => false

/-- A change of a limit switch: FAULT where it contradicts the state (R100), SETTLE or FORCED where it is the target
switch of a DRIVE (R93, R105), else recorded alone. -/
def Gate.switchChange (g : Gate) (now : Nat) (w : LimitSwitch) (active : Bool) : Gate :=
  let g' := g.setSwitch w active
  if g.contradicts w active then g'.toFault
  else match g.barrier, w, active with
    | .raising .drive o _ f, .up, true => g'.reachUp now o f
    | .lowering .drive o _, .down, true => g'.lowerSettle now o
    | _, _, _ => g'

/-! ### Emergency and reset (R101, R105, R106, R108) -/

/-- The forced raise (R105). -/
def Gate.forcedRaise (g : Gate) (now : Nat) : Gate :=
  let g' := { g with request := none }
  match g.barrier with
  | .down | .lowering _ _ _ | .raising .warn _ _ _ | .raising .drive _ _ _ => g'.raiseDrive now .emergency true
  | .raising .settle _ _ _ | .up => { g' with barrier := .forced }
  | .fault => if g.upSwitch && g.downSwitch then g' else g'.raiseDrive now .emergency true
  | .forced => g'

/-- The release lowering (R106). In a state it does not name it is a lower request of origin RELEASE (R95). -/
def Gate.releaseLower (g : Gate) (now : Nat) : Gate :=
  match g.barrier with
  | .forced => { g with barrier := .up, request := some ⟨.lower, .release⟩ }.restUp now
  | .raising p o due true => { g with barrier := .raising p o due false, request := some ⟨.lower, .release⟩ }
  | .fault => g
  | _ => g.lowerRequest now .release

/-- RESET_GATE can place the barrier: exactly one switch is ACTIVE (R101). -/
def Gate.placed (g : Gate) : Bool := g.upSwitch != g.downSwitch

/-- RESET_GATE on a FAULT barrier with exactly one switch ACTIVE (R101): at its rest the pending request acts as though
it had just arrived; with the latch set the forced raise is completed and the request is gone. -/
def Gate.restore (g : Gate) (now : Nat) (latch : Bool) : Gate :=
  let g' := { g with request := none }
  if latch then
    if g.upSwitch then { g' with barrier := .forced } else g'.raiseDrive now .emergency true
  else if g.upSwitch then
    match g.request with
    | some ⟨.lower, o⟩ => { g with barrier := .up, request := some ⟨.lower, o⟩ }.restUp now
    | _ => { g' with barrier := .up }
  else
    match g.request with
    | some ⟨.raise, o⟩ => { g' with barrier := .down }.raiseRequest now o
    | _ => { g' with barrier := .down }

/-- UNLOCK: the lock, and the raise of a session that the lock held (R102). -/
def Gate.unlock (g : Gate) (now : Nat) : Gate :=
  let g' := { g with locked := false }
  match g.barrier, g.request with
  | .down, some ⟨.raise, .session⟩ => { g' with request := none }.beginRaise now .session
  | _, _ => g'

/-- The record values of R90, the sampled levels, and the barrier by the switches (R108). The timing settings are
kept. -/
def Gate.reset (g : Gate) (now : Nat) (pins : GatePins) : Gate :=
  let g' : Gate := { barrier := .fault, request := none, locked := true, pass := false, occupied := pins.occupied
                     upSwitch := pins.up, downSwitch := pins.down, memory := none, drops := 0, waiting := none
                     warnTime := g.warnTime, driveLimit := g.driveLimit, settleTime := g.settleTime }
  if pins.down && !pins.up then { g' with barrier := .down }
  else if pins.up && !pins.down then { g' with barrier := .up, request := some ⟨.lower, .reset⟩ }.restUp now
  else g'

/-- The default timing settings (R91). -/
def Gate.defaultTimes (g : Gate) : Gate := { g with warnTime := 4, driveLimit := 6, settleTime := 2 }

/-- Two barriers are in the same one of the six barrier states, whatever their phases (R90). -/
def Barrier.sameState : Barrier → Barrier → Bool
  | .down, .down => true
  | .up, .up => true
  | .forced, .forced => true
  | .fault, .fault => true
  | .raising _ _ _ _, .raising _ _ _ _ => true
  | .lowering _ _ _, .lowering _ _ _ => true
  | _, _ => false

/-- A well-formed tag frame's effect on the repeat memory, and whether the read is accepted (R110). -/
def Gate.read (g : Gate) (now : Nat) (t : Tag) : Gate × Bool :=
  match g.memory with
  | some m =>
    if m.tag = t ∧ now < m.since + 3000000 then (g, false) else ({ g with memory := some ⟨t, now⟩ }, true)
  | none => ({ g with memory := some ⟨t, now⟩ }, true)

/-- A malformed frame is counted, saturating at 255 (R109). -/
def Gate.drop (g : Gate) : Gate := { g with drops := min 255 (g.drops + 1) }

end Sys2Proof.Machine
end

