-- ==== Sys2Proof/Machine/Tariff.lean ====
section
/-! DEFINITION. Tariff: the work of the Account and Tariff Unit within other events: charge, debit, on-site counts and
the entry checks (R75, R85 to R87). -/

namespace Sys2Proof.Machine

open Sys2Proof

/-- The charge in minor units of a net in kg (R86). -/
def charge (k : Kind) (net : Nat) : Nat := max k.minimum ((net * k.rate + 500) / 1000)

/-- The state an account takes when its balance or floor has changed (R74, R77, R78). -/
def Account.settle (a : Account) : Account :=
  match a.state with
  | .active => if a.balance ≤ a.floor then { a with state := .stoppedAuto } else a
  | .stoppedAuto => if a.floor < a.balance then { a with state := .active } else a
  | .stoppedHold => a

/-- An account after a debit (R87): a stopped account keeps its state. -/
def Account.debit (a : Account) (amount : Nat) : Account :=
  let a' := { a with balance := saturate (a.balance - amount) }
  match a.state with
  | .active => a'.settle
  | _ => a'

/-- The auto-stop of a change of balance is reported (R78, R87). -/
def Account.stops (before after : Account) : Bool := before.state == .active && after.state == .stoppedAuto

/-- The debit of a close, with its ACCOUNT_STOPPED (R87). -/
def State.debit (s : State) (n : AccountNo) (amount : Nat) : State :=
  match s.account n with
  | none => s
  | some a =>
    let s' := s.changeAccount n fun x => x.debit amount
    if a.stops (a.debit amount) then s'.raise .accountStopped (.account n) else s'

/-- An increment of an account's on-site count (R75). -/
def State.countUp (s : State) (n : Option AccountNo) : State :=
  match n with
  | none => s
  | some n => s.changeAccount n fun a => { a with count := a.count + 1 }

/-- A decrement of an account's on-site count (R75). -/
def State.countDown (s : State) (n : Option AccountNo) : State :=
  match n with
  | none => s
  | some n => s.changeAccount n fun a => { a with count := a.count - 1 }

/-- Steps 3 and 4 of the entry checks (R85). -/
def State.accountCheck (s : State) (n : Option AccountNo) : Option CallReason :=
  match n with
  | none => none
  | some n =>
    match s.account n with
    | none => some .accountStopped
    | some a =>
      if a.state ≠ .active then some .accountStopped
      else if a.limit ≤ a.count then some .accountLimit
      else none

/-- The entry checks in their order; the first failure gives the reason (R85). `barred` is step 1, of a tagged call. -/
def State.entryCheck (s : State) (barred : Bool) (kind : Nat) (dir : Direction) (account : Option AccountNo) :
    Option CallReason :=
  if barred then some .vehicleBarred
  else if !((s.kind kind).accepted && (s.kind kind).allows dir) then some .kindClosed
  else match s.accountCheck account with
    | some r => some r
    | none => if s.freeCount = 0 then some .yardFull else none

end Sys2Proof.Machine
end

