-- ==== Sys2Proof/Machine/Yard.lean ====
section
/-! DEFINITION. Yard: the work of the Visit Register within other events: open, depart, undo, over-stay, retirement,
the walk's search, and the changes of a reset (R44 to R46, R53, R61, R63, R66). -/

namespace Sys2Proof.Machine

open Sys2Proof

/-- A visit over-stays: ON_SITE, its flag no, and the clock past its opened time by more than the max stay (R63). -/
def Visit.overdue (v : Visit) (clock : Seconds) (maxStay : Nat) : Bool :=
  match v.state with
  | .onSite _ => !v.overStay && decide (v.opened.toNat + maxStay * 3600 < clock.toNat)
  | _ => false

/-- A visit over-stays at this moment (R63). -/
def State.overdue (s : State) (v : Visit) : Bool := v.overdue s.service.clock s.service.maxStay

/-- A slot takes a visit that enters ON_SITE, with the over-stay check in the same event (R46, R47, R63). -/
def State.enterOnSite (s : State) (n : Nat) (v : Visit) : State :=
  if s.overdue v then (s.writeSlot n (some { v with overStay := true })).raise .overStay (.slot n)
  else s.writeSlot n (some v)

/-- The over-stay check of one slot (R63). -/
def State.checkStay (s : State) (n : Nat) : State :=
  match s.visit n with
  | some v => if s.overdue v then (s.writeSlot n (some { v with overStay := true })).raise .overStay (.slot n) else s
  | none => s

/-- The over-stay check of every slot, ascending (R63, R180). -/
def State.checkStays (s : State) : State := (List.range 128).foldl State.checkStay s

/-- An open visit carries the tag (R44). -/
def Visit.openTag (t : Tag) (v : Visit) : Bool := v.isOpen && v.tag == some t

/-- An open visit carries the plate (R44). -/
def Visit.openPlate (p : Plate) (v : Visit) : Bool := v.isOpen && v.plate == p

/-- The visit that an inbound session hands to the register (R45). -/
structure Opening where
  tag : Option Tag
  plate : Plate
  account : Option AccountNo
  kind : Nat
  direction : Direction
deriving DecidableEq, Repr

/-- The ARRIVING visit of an open (R45). -/
def Opening.visit (o : Opening) (d : DeckId) (clock : Seconds) : Visit :=
  { tag := o.tag, plate := o.plate, account := o.account, kind := o.kind, direction := o.direction, opened := clock
    onePass := false, overStay := false, state := .arriving d }

/-- The open in one FREE slot (R45). -/
def State.openIn (s : State) (n : Nat) (o : Opening) (d : DeckId) : State :=
  let s' := (s.writeSlot n (some (o.visit d s.service.clock))).countUp o.account
  if s.freeCount = 9 then s'.raise .yardNearlyFull (.freeCount 8) else s'

/-- The depart of an ON_SITE visit (R46). -/
def State.depart (s : State) (n : Nat) (d : DeckId) : State :=
  match s.visit n with
  | some v =>
    match v.state with
    | .onSite w => s.writeSlot n (some { v with state := .departing d w })
    | _ => s
  | none => s

/-- The undo of an ARRIVING or DEPARTING visit (R46). -/
def State.undo (s : State) (n : Nat) : State :=
  match s.visit n with
  | some v =>
    match v.state with
    | .arriving _ => (s.writeSlot n none).countDown v.account
    | .departing _ w => s.enterOnSite n { v with state := .onSite w }
    | _ => s
  | none => s

/-- A CLOSED visit with its ticket changed. -/
def Visit.withTicket (v : Visit) (t : Ticket) : Visit := { v with state := .closed t }

/-- A ticket that need not wait: PRINTED or NOT_REQUIRED (R61). -/
def Ticket.settled (t : Ticket) : Bool := t.mark == .printed || t.mark == .notRequired

/-- A CLOSED visit's slot after a change of its ticket: it retires when collected and settled (R61). -/
def Visit.afterTicket (v : Visit) (t : Ticket) : Option Visit :=
  if t.collected && t.settled then none else some (v.withTicket t)

/-! ### The walk (R53, R54) -/

/-- The filter matches a slot's state (R53). -/
def WalkFilter.passes (f : WalkFilter) (sl : Slot) : Bool :=
  match f with
  | .anyNonFree => sl.name != .free
  | .named n => sl.name == n

/-- The snapshot of a slot (R53). -/
def State.snapshot (s : State) (n : Nat) : Snapshot := { number := n, slot := s.slot n }

/-- The first slot at or above `n` that the filter matches (R53). -/
def State.searchUp (s : State) (f : WalkFilter) (n : Nat) : Option Nat :=
  ((List.range 128).filter (n ≤ ·)).find? fun i => f.passes (s.slot i)

/-- The first slot at or below `n` that the filter matches (R53). -/
def State.searchDown (s : State) (f : WalkFilter) (n : Nat) : Option Nat :=
  ((List.range 128).reverse.filter (· ≤ n)).find? fun i => f.passes (s.slot i)

/-- The slot a SEEK from a given slot finds (R53). -/
def State.seekFrom (s : State) (step : WalkStep) (f : WalkFilter) (n : Nat) : Option Nat :=
  match step with
  | .up => s.searchUp f n
  | .down => s.searchDown f n
  | .stay => some n

/-- The slot a WALK after slot `n` finds (R54). -/
def State.stepFrom (s : State) (step : WalkStep) (f : WalkFilter) (n : Nat) : Option Nat :=
  match step with
  | .up => s.searchUp f (n + 1)
  | .down => if n = 0 then none else s.searchDown f (n - 1)
  | .stay => some n

/-! ### Resets (R66) -/

/-- A slot after a reset with retention intact (R66). -/
def Slot.afterReset (sl : Slot) : Slot :=
  match sl.visit with
  | none => sl
  | some v =>
    match v.state with
    | .arriving _ => sl.write none
    | .departing _ w => sl.write (some { v with state := .onSite w })
    | .closed t => if t.mark = .printing then sl.write (some (v.withTicket { t with mark := .unprinted })) else sl
    | _ => sl

/-- The ARRIVING visits of an account that a reset frees (R66, R75). -/
def State.arrivingOn (s : State) (n : AccountNo) : Nat :=
  s.register.slots.countP fun sl => sl.visit.any fun v => v.state.name == .arriving && v.account == some n

/-- The register's changes at a reset with retention intact, with the on-site counts (R66, R89). The walk cursor takes
its reset values (R53). -/
def State.resetRegister (s : State) : State :=
  { s with
    register := { s.register with slots := s.register.slots.map Slot.afterReset, cursor := Cursor.reset }
    accounts := s.accounts.map fun a => { a with count := a.count - s.arrivingOn a.number } }

end Sys2Proof.Machine
end

