-- ==== Sys2Proof/Machine/PrintBus.lean ====
section
/-! DEFINITION. PrintBus: the work of the Print Controller: the arbiter, the ticket frame, the transfer, and the
outcomes of a job (R150 to R158, R163, R188, R189). -/

namespace Sys2Proof.Machine

open Sys2Proof

/-! ### The ticket frame (R163, R188) -/

/-- Deck codes (R184). -/
def deckCode : DeckId → Nat
  | .d1 => 1
  | .d2 => 2

/-- Printer codes (R184). -/
def printerCode : PrinterId → Nat
  | .p1 => 1
  | .p2 => 2

/-- Direction codes (R184). -/
def directionCode : Direction → Nat
  | .deliver => 1
  | .collect => 2

/-- Weighing origin codes (R187). -/
def originCode : WeighOrigin → Nat
  | .deck => 1
  | .manual => 2
  | .stored => 3

/-- A plate field: the characters left-aligned, spaces after them (R184). -/
def plateBytes (p : Plate) : List Byte := (p ++ List.replicate 10 0x20).take 10

/-- A yes/no mark as 0 or 1. -/
def bit (b : Bool) : Nat := if b then 1 else 0

/-- A weighing of the ticket frame: weight 4, deck 1, time 4, origin 1 (R188). -/
def Weighing.ticketBytes (w : Weighing) : List Byte :=
  bytesOfInt 4 w.weight ++ bytesOfNat 1 (deckCode w.deck) ++ bytesOfNat 4 w.time.toNat ++
    bytesOfNat 1 (originCode w.origin)

/-- The 59 bytes of the ticket frame before its check (R188). -/
def ticketBody (p : PrinterId) (v : Visit) (t : Ticket) : List Byte :=
  [0xC5] ++ bytesOfNat 4 t.number ++ bytesOfNat 1 t.attempts ++ bytesOfNat 1 (printerCode p) ++ plateBytes v.plate ++
    bytesOfNat 1 (bit v.tag.isSome + 2 * bit v.account.isSome) ++ bytesOfNat 4 ((v.tag.getD 0).toNat) ++
    bytesOfNat 2 ((v.account.getD 0).toNat) ++ bytesOfNat 1 v.kind ++ bytesOfNat 1 (directionCode v.direction) ++
    t.first.ticketBytes ++ t.second.ticketBytes ++ bytesOfInt 4 t.net ++ bytesOfNat 4 t.charge ++
    bytesOfNat 4 t.closeTime.toNat ++ bytesOfNat 1 (bit v.onePass + 2 * bit t.adjusted)

/-- The 16-bit sum of the bytes before the check (R189). -/
def ticketCheck (body : List Byte) : Nat := (body.foldl (fun acc b => acc + b.toNat) 0) % 65536

/-- The ticket frame (R188, R189). -/
def ticketFrame (p : PrinterId) (v : Visit) (t : Ticket) : List Byte :=
  ticketBody p v t ++ bytesOfNat 2 (ticketCheck (ticketBody p v t))

/-! ### Writes of the print mark (R62) -/

/-- The ticket after the job-start write (R62). -/
def Ticket.started (t : Ticket) : Ticket := { t with mark := .printing, attempts := min 15 (t.attempts + 1) }

/-- A write to the ticket of a slot that is CLOSED with mark PRINTING; else nothing is applied (R62). -/
def State.writePrinting (s : State) (n : Nat) (mark : PrintMark) : State :=
  match s.visit n with
  | some v =>
    match v.state with
    | .closed t => if t.mark = .printing then s.writeSlot n (v.afterTicket { t with mark := mark }) else s
    | _ => s
  | none => s

/-! ### Printers and the job -/

/-- The Print Controller replaced. -/
def State.setPrinting (s : State) (c : Printing) : State := { s with printing := c }

/-- One printer. -/
def State.printer (s : State) (p : PrinterId) : Printer := s.printing.printers.get p

/-- One printer replaced. -/
def State.setPrinter (s : State) (p : PrinterId) (x : Printer) : State :=
  s.setPrinting { s.printing with printers := s.printing.printers.set p x }

/-- The job in progress replaced. -/
def State.setJob (s : State) (j : Option Job) : State := s.setPrinting { s.printing with job := j }

/-- The controller is ready for a byte: it waits up to 2 s while BUSY is active, else the byte's setup begins (R156). -/
def State.bytePhase (s : State) (p : PrinterId) (t : PrintTimes) : JobPhase :=
  if (s.printer p).pins.busy then .waitBusy (s.inSeconds 2) else .setup (s.inMicros t.setup)

/-- The start of a job for a slot's ticket (R155, R156). -/
def State.startJob (s : State) (p : PrinterId) (n : Nat) (v : Visit) (t : Ticket) : State :=
  let s' := s.writeSlot n (some (v.withTicket t.started))
  s'.setPrinting
    { s'.printing with
      printers := s'.printing.printers.set p { s'.printer p with state := .printing, hold := false }
      lastServed := p
      job := some { printer := p, slot := n, ticket := t.number, copy := t.started.attempts
                    frame := ticketFrame p v t.started, sent := 0, times := s'.printing.times
                    phase := s'.bytePhase p s'.printing.times } }

/-- The fault of the job in progress, but for the arbiter's choice (R158). -/
def State.failJob (s : State) (j : Job) (c : FaultCause) : State :=
  let s' := s.writePrinting j.slot .unprinted
  ((s'.setPrinter j.printer { s'.printer j.printer with state := .outOfService, hold := false, lastFault := some c }).raise
    .printerFault (.printer j.printer)).setJob none

/-- The DONE of the job in progress, but for the arbiter's choice (R157). -/
def State.endJob (s : State) (j : Job) : State :=
  let s' := s.writePrinting j.slot .printed
  (s'.setPrinter j.printer
    { s'.printer j.printer with state := if (s'.printer j.printer).hold then .held else .inService, hold := false }).setJob
    none

/-! ### The arbiter (R154) -/

/-- A printer is a candidate (R154). -/
def State.candidate (s : State) (p : PrinterId) : Bool :=
  (s.printer p).state == .inService && (s.oldestWaiting p).isSome

/-- The arbiter's choice among the candidates (R154). -/
def State.chosen (s : State) : Option PrinterId :=
  let next := s.printing.lastServed.other
  if s.candidate next then some next
  else if s.candidate s.printing.lastServed then some s.printing.lastServed
  else none

/-- The arbiter on an idle bus, with as many choices as `fuel` allows: a job that faults at its selection leaves the
bus idle again with its printer out of service (R154, R156, R158). -/
def State.arbitrate : Nat → State → State
  | 0, s => s
  | fuel + 1, s =>
    match s.printing.job, s.chosen with
    | none, some p =>
      match s.oldestWaiting p with
      | some (n, _) =>
        match s.visit n with
        | some v =>
          match v.state with
          | .closed t =>
            let s' := s.startJob p n v t
            match s'.printing.job with
            | some j => if (s'.printer p).pins.fault then (s'.failJob j .faultLine).arbitrate fuel else s'
            | none => s'
          | _ => s
        | none => s
      | none => s
    | _, _ => s

/-- The arbiter's choice at an event that may leave the bus idle with a printer to serve (R154). Each printer can
fault at most once in one event, so three choices settle it. -/
def State.serveBus (s : State) : State := s.arbitrate 3

/-- A job fault with the choice that follows (R158). -/
def State.faultJob (s : State) (j : Job) (c : FaultCause) : State := (s.failJob j c).serveBus

/-- A job's DONE with the choice that follows (R157). -/
def State.finishJob (s : State) (j : Job) : State := (s.endJob j).serveBus

/-! ### The transfer (R156) -/

/-- The end of a byte's hold time: the next byte, or deselection and the completion wait (R156, R157). -/
def State.byteEnd (s : State) (j : Job) : State :=
  let j' := { j with sent := j.sent + 1 }
  if j'.sent < j.frame.length then s.setJob (some { j' with phase := s.bytePhase j.printer j.times })
  else
    let s' := s.setJob (some { j' with phase := .completing (s.inSeconds j.times.completion) })
    if (s.printer j.printer).pins.fault then s'.faultJob { j' with phase := .completing (s.inSeconds j.times.completion) } .faultLine
    else s'

/-- The end of a byte's strobe: its hold time, or its end at once with a hold time of 0 (R156; log 18). -/
def State.strobeEnd (s : State) (j : Job) : State :=
  if j.times.hold = 0 then s.byteEnd j
  else s.setJob (some { j with phase := .hold (s.inMicros j.times.hold) })

end Sys2Proof.Machine
end

