-- ==== Sys2Proof/Machine/Close.lean ====
section
/-! DEFINITION. Close: turning a visit with both weighings into a ticket or a HELD visit, and the capture that invokes
it (R47 to R51). -/

namespace Sys2Proof.Machine

open Sys2Proof

/-- The net of two weighings (R48). -/
def netOf (d : Direction) (first second : Weighing) : Int :=
  match d with
  | .deliver => first.weight - second.weight
  | .collect => second.weight - first.weight

/-- The larger of the divisions of the decks two weighings name (R48, R39). -/
def State.eMax (s : State) (first second : Weighing) : Nat :=
  max (s.deck first.deck).division (s.deck second.deck).division

/-- The held checks: the reason to hold, none when the visit closes (R48). -/
def heldReason (net : Int) (eMax : Nat) : Option HeldReason :=
  if net < 0 then some .negativeNet else if net < 20 * eMax then some .lowNet else none

/-! ### Ticket numbers (R49) -/

/-- The number that follows a ticket number (R49). -/
def nextNumber (n : Nat) : Nat := if n = 99999999 then 1 else n + 1

/-- A CLOSED visit holds the number (R49). -/
def State.numberHeld (s : State) (n : Nat) : Bool :=
  s.register.slots.any fun sl => (sl.visit.bind Visit.ticket).any fun t => t.number == n

/-- The first number from a candidate on that no CLOSED visit holds, within so many tests (R49). -/
def State.freeNumber (s : State) : Nat → Nat → Nat
  | 0, n => n
  | fuel + 1, n => if s.numberHeld n then s.freeNumber fuel (nextNumber n) else n

/-- The ticket number of a close; at most 128 tests are needed (R49). -/
def State.ticketNumber (s : State) : Nat := s.freeNumber 128 s.register.nextTicket

/-! ### Auto-tare (R51) -/

/-- The conditions of auto-tare that the visit itself decides (R51). -/
def Visit.setsTare (v : Visit) (t : Ticket) : Bool :=
  v.direction == .deliver && !v.onePass && !t.adjusted && t.second.origin == .deck

/-- Auto-tare: the entry's stored tare becomes the second weighing (R51). -/
def State.autoTare (s : State) (v : Visit) (t : Ticket) : State :=
  match v.tag.bind s.vehicle with
  | some e =>
    if v.setsTare t && e.autoTare then
      s.putVehicle { e with tare := some ⟨t.second.weight.toNat, dayOf s.service.clock, t.second.deck⟩ }
    else s
  | none => s

/-! ### The close (R48 to R50) -/

/-- What a close is given beside the visit: both weighings, the net in kg, the adjusted flag, the print target, and
whether the visit comes from an open state. -/
structure Closing where
  first : Weighing
  second : Weighing
  net : Int
  adjusted : Bool
  target : Option PrinterId
  fromOpen : Bool
deriving DecidableEq, Repr

/-- The ticket of a close (R49, R50). -/
def State.ticketOf (s : State) (v : Visit) (c : Closing) : Ticket :=
  { first := c.first, second := c.second, net := c.net, number := s.ticketNumber, closeTime := s.service.clock
    charge := charge (s.kind v.kind) c.net.toNat, adjusted := c.adjusted, target := c.target
    mark := if c.target = none then .notRequired else .unprinted, attempts := 0, collected := false }

/-- The debit of a visit that carries an account (R50, R87). -/
def State.debitVisit (s : State) (v : Visit) (amount : Nat) : State :=
  match v.account with
  | some n => s.debit n amount
  | none => s

/-- A visit becomes CLOSED (R49 to R51), but for the arbiter's choice that follows. -/
def State.closeRecord (s : State) (n : Nat) (v : Visit) (c : Closing) : State :=
  let t := s.ticketOf v c
  let s1 := s.writeSlot n (some (v.withTicket t))
  let s2 := { s1 with register := { s1.register with nextTicket := nextNumber t.number } }
  let s3 := s2.debitVisit v t.charge
  let s4 := if c.fromOpen then s3.countDown v.account else s3
  (s4.raise .collectWaiting (.slot n)).autoTare v t

/-- A visit becomes CLOSED (R49 to R51), and its ticket joins its printer's waiting tickets (R153, R154). -/
def State.close (s : State) (n : Nat) (v : Visit) (c : Closing) : State := (s.closeRecord n v c).serveBus

/-- A visit becomes HELD (R48). -/
def State.hold (s : State) (n : Nat) (v : Visit) (first second : Weighing) (net : Int) (r : HeldReason) : State :=
  ((s.writeSlot n (some { v with state := .held first second net r })).countDown v.account).raise .visitHeld (.slot n)

/-- The close that a capture invokes (R48). -/
def State.closeAtCapture (s : State) (n : Nat) (v : Visit) (d : DeckId) (first second : Weighing) :
    State × VisitOutcome :=
  let net := netOf v.direction first second
  match heldReason net (s.eMax first second) with
  | some r => (s.hold n v first second net r, .held)
  | none => (s.close n v ⟨first, second, net, false, some d.printer, true⟩, .closed)

/-- The weighing of a stored tare (R43). -/
def Tare.weighing (t : Tare) : Weighing :=
  { weight := t.weight, deck := t.deck, time := BitVec.ofNat 32 (t.day * 86400), origin := .stored }

/-- The stored tare of a one-pass capture, judged at the capture (R125, R68). -/
def State.onePassTare (s : State) (v : Visit) : Option Tare :=
  match v.direction, v.tag.bind s.vehicle with
  | .deliver, some e => if e.tareValid (dayOf s.service.clock) then e.tare else none
  | _, _ => none

/-- A capture handed to the register for the visit of a slot (R47, R125): inbound two-pass, inbound one-pass with the
close, or outbound with the close. A slot in no such state is left alone. -/
def State.capture (s : State) (n : Nat) (d : DeckId) (w : Weighing) : State × VisitOutcome :=
  match s.visit n with
  | some v =>
    match v.state with
    | .arriving _ =>
      match s.onePassTare v with
      | some t => s.closeAtCapture n { v with onePass := true } d w t.weighing
      | none => (s.enterOnSite n { v with state := .onSite w }, .onSite)
    | .departing _ first => s.closeAtCapture n v d first w
    | _ => (s, .pending)
  | none => (s, .pending)

end Sys2Proof.Machine
end

