-- ==== Sys2Proof/Machine/Arbiter.lean ====
section
/-! DEFINITION. Arbiter: the call arbiter and the state machine of a deck's session: calls, offers, boarding, capture,
release, leaving and clearing (R112 to R131). -/

namespace Sys2Proof.Machine

open Sys2Proof

/-! ### Requests of a session to a gate -/

/-- A raise request to a gate's barrier (R94). -/
def State.sendRaise (s : State) (g : GateId) (o : Origin) : State := s.setGate g ((s.gate g).raiseRequest s.now o)

/-- A lower request to a gate's barrier (R95). -/
def State.sendLower (s : State) (g : GateId) (o : Origin) : State := s.setGate g ((s.gate g).lowerRequest s.now o)

/-- The entry gate of a session. -/
def Serving.entryGate (v : Serving) (d : DeckId) : GateId := d.gate v.entryEnd

/-- The release gate of a session. -/
def Serving.releaseGate (v : Serving) (d : DeckId) : GateId := d.gate v.releaseEnd

/-! ### Calls (R114 to R120) -/

/-- Two calls have the same identity: the same form and key (R116). -/
def CallForm.sameIdentity : CallForm → CallForm → Bool
  | .tag a, .tag b => a == b
  | .plate a _ _ _, .plate b _ _ _ => a == b
  | .slot a, .slot b => a == b
  | _, _ => false

/-- What the arbiter decides of a call (R115). -/
inductive Decision where
  | taken (slot : Nat)
  | waits
  | unavailable
  | refused (reason : CallReason)
deriving DecidableEq, Repr

/-- The call was refused, with its reason (R115). -/
def Decision.reason : Decision → Option CallReason
  | .unavailable => some .deckUnavailable
  | .refused r => some r
  | _ => none

/-- Case 1 of R115. -/
def State.callBarred (s : State) (d : DeckId) : Bool :=
  s.emergency.latch || (s.deck d).unit.reading.availability == .fault ||
    (s.deck d).unit.reading.availability == .uncalibrated

/-- Case 2 of R115. -/
def State.callHeld (s : State) (g : GateId) : Bool :=
  (s.deck g.deck).session.isSome || (s.gate g).locked || (s.deck g.deck).unit.reading.availability == .warming ||
    (s.deck g.deck).unit.reading.availability == .asleep || (s.deck g.deck).loaded

/-- What the checks of an inbound call answer: the reason that refuses it, or the visit to open (R119). -/
def State.inboundCheck (s : State) (form : CallForm) : Except CallReason Opening :=
  match form with
  | .tag t =>
    match s.vehicle t with
    | none => .error .unknownTag
    | some e =>
      if (s.findSlot (Visit.openTag t)).isSome || (s.findSlot (Visit.openPlate e.plate)).isSome then .error .alreadyOnSite
      else match s.entryCheck e.barred e.kind e.direction (some e.account) with
        | some r => .error r
        | none => .ok ⟨some t, e.plate, some e.account, e.kind, e.direction⟩
  | .plate p a k dir =>
    if (s.findSlot (Visit.openPlate p)).isSome then .error .alreadyOnSite
    else match s.entryCheck false k dir a with
      | some r => .error r
      | none => .ok ⟨none, p, a, k, dir⟩
  | .slot _ => .error .noVisit

/-- What the checks of an outbound call answer: the reason that refuses it, or the slot that departs (R120). -/
def State.outboundCheck (s : State) (form : CallForm) : Except CallReason Nat :=
  let judge (n : Nat) : Except CallReason Nat :=
    match (s.slot n).name with
    | .onSite => .ok n
    | .arriving | .departing => .error .visitBusy
    | _ => .error .noVisit
  match form with
  | .tag t =>
    match s.findSlot (Visit.openTag t) with
    | some n => judge n
    | none => .error .noVisit
  | .slot n => judge n
  | .plate _ _ _ _ => .error .noVisit

/-- The session set up in the event that takes a call (R121). -/
def State.setUpSession (s : State) (d : DeckId) (h : Heading) (n : Nat) : State :=
  let entry := match h with
    | .inbound => GateEnd.road
    | .outbound => GateEnd.yard
  let release := match h with
    | .inbound => GateEnd.yard
    | .outbound => GateEnd.road
  let g := d.gate entry
  let boards := (s.gate g).occupied
  ((s.setPass g true).sendRaise g .session).setSession d
    (some { stage := if boards then .boarding else .called, heading := h, entryEnd := entry, releaseEnd := release
            slot := n, outcome := .pending, accepted := s.service.clock
            boardDue := if boards then none else some (s.inSeconds (s.deck d).times.boardTime)
            captureDue := none, clearMark := false, waiver := false })

/-- Case 4 of R115: the checks, the open or the depart, and the session (R119 to R121). -/
def State.takeCall (s : State) (g : GateId) (form : CallForm) : State × Decision :=
  match g.side with
  | .road =>
    match s.inboundCheck form with
    | .error r => (s, .refused r)
    | .ok o =>
      match s.lowestFree with
      | some n => ((s.openIn n o g.deck).setUpSession g.deck .inbound n, .taken n)
      | none => (s, .refused .yardFull)
  | .yard =>
    match s.outboundCheck form with
    | .error r => (s, .refused r)
    | .ok n => ((s.depart n g.deck).setUpSession g.deck .outbound n, .taken n)

/-- The cases of R115 on a call, but for what becomes of a held or a refused one. -/
def State.judgeCall (s : State) (g : GateId) (form : CallForm) : State × Decision :=
  if s.callBarred g.deck then (s, .unavailable)
  else if s.callHeld g then (s, .waits)
  else if (s.gate g).barrier = .fault then (s, .unavailable)
  else s.takeCall g form

/-- A held call becomes, refreshes or replaces the gate's waiting call (R116). -/
def State.holdCall (s : State) (g : GateId) (form : CallForm) : State :=
  let due := s.inSeconds (s.deck g.deck).times.callWait
  let fresh : WaitingCall := { form := form, stamp := s.stamp, due := due }
  let call := match (s.gate g).waiting with
    | some c => if c.form.sameIdentity form then { c with due := due } else fresh
    | none => fresh
  s.setGate g { s.gate g with waiting := some call }

/-- CALL_REFUSED for a decision that refuses (R115). -/
def State.noteRefusal (s : State) (g : GateId) (x : Decision) : State :=
  match x.reason with
  | some r => s.raise .callRefused (.refusal g r)
  | none => s

/-- A call reaches the arbiter of its gate's deck (R115, R116). -/
def State.arbitrateCall (s : State) (g : GateId) (form : CallForm) : State × Decision :=
  let r := s.judgeCall g form
  match r.2 with
  | .waits => (r.1.holdCall g form, .waits)
  | x => (r.1.noteRefusal g x, x)

/-! ### Offers (R118) -/

/-- The deck is able to take a call (R118). -/
def State.able (s : State) (d : DeckId) : Bool :=
  !s.emergency.latch && (s.deck d).unit.reading.availability == .ready && (s.deck d).session.isNone &&
    !(s.deck d).loaded

/-- One waiting call offered: taken it leaves its gate, refused it leaves with CALL_REFUSED, held it stays (R118). -/
def State.offerOne (s : State) (g : GateId) : State :=
  match (s.gate g).waiting with
  | none => s
  | some c =>
    let r := s.judgeCall g c.form
    match r.2 with
    | .waits => s
    | x => (r.1.dropWaiting g).noteRefusal g x

/-- The gate whose waiting call is offered first: the oldest stamp, the road end of two that arrived together (R118). -/
def State.offerFirst (s : State) (d : DeckId) : GateEnd :=
  match (s.gate (d.gate .road)).waiting, (s.gate (d.gate .yard)).waiting with
  | some a, some b => if a.stamp ≤ b.stamp then .road else .yard
  | none, some _ => .yard
  | _, none => .road

/-- The offer of a deck's waiting calls, while it is able (R118). -/
def State.offer (s : State) (d : DeckId) : State :=
  if s.able d then
    let e := s.offerFirst d
    let s' := s.offerOne (d.gate e)
    if s'.able d then s'.offerOne (d.gate e.other) else s'
  else s

/-- A deck's waiting calls dropped with CALL_REFUSED, reason DECK_UNAVAILABLE, road end first (R117). -/
def State.refuseWaiting (s : State) (d : DeckId) : State :=
  let one (s : State) (g : GateId) : State :=
    if (s.gate g).waiting.isSome then (s.dropWaiting g).raise .callRefused (.refusal g .deckUnavailable) else s
  one (one s (d.gate .road)) (d.gate .yard)

/-- A deck's waiting calls dropped without a notice (R140). -/
def State.dropCalls (s : State) (d : DeckId) : State :=
  (s.dropWaiting (d.gate .road)).dropWaiting (d.gate .yard)

/-! ### The passage of a vehicle (R122 to R129) -/

/-- The entry into RELEASED, or at once into LEAVING (R127). -/
def State.enterReleased (s : State) (d : DeckId) (v : Serving) : State :=
  let g := v.releaseGate d
  ((s.setPass g true).sendRaise g .session).setSession d
    (some { v with stage := if (s.gate g).occupied then .leaving else .released, clearMark := false,
                   boardDue := none, captureDue := none })

/-- The entry into CLEARING: the release gate's pass flag no and a lower sent to it (R122, R128, R131). -/
def State.enterClearing (s : State) (d : DeckId) (v : Serving) : State :=
  let g := v.releaseGate d
  ((s.setPass g false).sendLower g .session).setSession d
    (some { v with stage := .clearing, clearMark := false, boardDue := none, captureDue := none })

/-- The session becomes VACANT with both pass flags no (R129, R139). -/
def State.vacate (s : State) (d : DeckId) : State :=
  ((s.setPass (d.gate .road) false).setPass (d.gate .yard) false).setSession d none

/-- The undo of a session's visit, with the release end become the entry end (R122, R130). -/
def Serving.turned (v : Serving) : Serving := { v with outcome := .undone, releaseEnd := v.entryEnd }

/-- A weighing handed to the register for the session's visit, and the release of the vehicle (R125). -/
def State.captureInto (s : State) (d : DeckId) (v : Serving) (w : Weighing) : State :=
  let r := s.capture v.slot d w
  r.1.enterReleased d { v with outcome := r.2 }

/-- Both barriers of a deck are DOWN (R124). -/
def State.barriersDown (s : State) (d : DeckId) : Bool :=
  (s.gate (d.gate .road)).barrier == .down && (s.gate (d.gate .yard)).barrier == .down

/-- The capture conditions of a deck (R124). -/
def State.capturable (s : State) (d : DeckId) : Bool :=
  let k := s.deck d
  k.unit.reading.availability == .ready && k.unit.reading.status == .valid && k.unit.reading.current && k.stable &&
    k.loaded && k.withinMax && s.barriersDown d && !s.loopOccupied d

/-- The weighing of a capture (R124). -/
def State.deckWeighing (s : State) (d : DeckId) : Weighing :=
  { weight := (s.deck d).unit.reading.weight, deck := d, time := s.service.clock, origin := .deck }

/-- A session in ON_DECK tests the capture conditions (R124). -/
def State.captureTest (s : State) (d : DeckId) : State :=
  match (s.deck d).session with
  | some v => if v.stage = .onDeck ∧ s.capturable d then s.captureInto d v (s.deckWeighing d) else s
  | none => s

/-- A session in CLEARING tests its completion (R129). -/
def State.clearingTest (s : State) (d : DeckId) (v : Serving) : State :=
  let down := (s.gate (v.releaseGate d)).barrier == .down
  let valid := (s.deck d).unit.reading.status == .valid
  if down && v.waiver then (s.vacate d).offer d
  else if down && valid && (s.deck d).loaded then s.enterReleased d v
  else if down && valid && !s.loopOccupied d then (s.vacate d).offer d
  else s

/-- A session under the check waiver becomes CLEARING, and VACANT in the same event where the release barrier is DOWN
(R128, R129, R131; log 12). -/
def State.clearWaived (s : State) (d : DeckId) (v : Serving) : State :=
  (s.enterClearing d { v with waiver := true }).clearingTest d { v with waiver := true }

/-- A barrier of a session's deck has changed its state (R124, R129). -/
def State.sessionBarrier (s : State) (g : GateId) : State :=
  match (s.deck g.deck).session with
  | some v =>
    match v.stage with
    | .onDeck => s.captureTest g.deck
    | .clearing => if v.releaseGate g.deck = g then s.clearingTest g.deck v else s
    | _ => s
  | none => s

/-- A loop of a session's deck has changed its state (R122, R124, R127 to R129). -/
def State.sessionLoop (s : State) (g : GateId) (occupied : Bool) : State :=
  let d := g.deck
  match (s.deck d).session with
  | some v =>
    let atEntry := v.entryGate d = g
    let atRelease := v.releaseGate d = g
    match v.stage with
    | .called =>
      if atEntry ∧ occupied then s.setSession d (some { v with stage := .boarding, clearMark := false, boardDue := none })
      else s
    | .boarding => if atEntry then s.setSession d (some { v with clearMark := !occupied }) else s
    | .onDeck => s.captureTest d
    | .released =>
      if atRelease ∧ occupied then s.setSession d (some { v with stage := .leaving, clearMark := false }) else s
    | .leaving =>
      if atRelease then
        if !occupied && v.waiver then s.clearWaived d v else s.setSession d (some { v with clearMark := !occupied })
      else s
    | .clearing =>
      if atRelease ∧ occupied then s.setSession d (some { v with stage := .leaving, clearMark := false })
      else s.clearingTest d v
  | none => s

/-- A session on deck: the entry gate closes behind the vehicle and the capture timer starts (R122). -/
def State.enterOnDeck (s : State) (d : DeckId) (v : Serving) : State :=
  let g := v.entryGate d
  ((s.setPass g false).sendLower g .session).setSession d
    (some { v with stage := .onDeck, clearMark := false, captureDue := some (s.inSeconds (s.deck d).times.captureTime) })

/-- A session takes an evaluation (R122, R124, R128, R129). The evaluation that takes BOARDING to ON_DECK does not test the
capture conditions as well: the session tests them from its next event on, which the spec leaves open (log 33). -/
def State.sessionEvaluation (s : State) (d : DeckId) : State :=
  match (s.deck d).session with
  | some v =>
    let valid := (s.deck d).unit.reading.status == .valid
    match v.stage with
    | .boarding =>
      if valid && v.clearMark then
        if (s.deck d).loaded then s.enterOnDeck d v
        else s.setSession d (some { v with stage := .called, clearMark := false,
                                           boardDue := some (s.inSeconds (s.deck d).times.boardTime) })
      else s
    | .onDeck => s.captureTest d
    | .leaving =>
      if valid && v.clearMark then
        if (s.deck d).loaded then s.enterReleased d v else s.enterClearing d v
      else s
    | .clearing => s.clearingTest d v
    | _ => s
  | none => s

/-- What follows in a gate's barrier change: BARRIER_FAULT on entering FAULT (R100), and the session's tests where the
barrier state changed (R93, R124, R129). `before` is the barrier before the event. -/
def State.barrierMoved (s : State) (g : GateId) (before : Barrier) : State :=
  let after := (s.gate g).barrier
  let s' := if after = .fault ∧ before ≠ .fault then s.raise .barrierFault (.gate g) else s
  if before.sameState after then s' else s'.sessionBarrier g

/-- A gate's channel changed by an event, with what follows (R93, R100). -/
def State.gateEvent (s : State) (g : GateId) (f : Gate → Gate) : State :=
  (s.setGate g (f (s.gate g))).barrierMoved g (s.gate g).barrier

end Sys2Proof.Machine
end

