-- ==== Sys2Proof/Machine/Weighing.lean ====
section
/-! DEFINITION. Weighing: the cell links, the evaluation of a cycle, and the availability of a deck (spec/01), with the
commands of the chapter Deck Weighing. -/

namespace Sys2Proof.Machine

open Sys2Proof

/-! ### The weight arithmetic (R8, R9) -/

/-- A quotient rounded to the nearest whole number, ties away from zero (spec/00 section 2.2). -/
def roundAway (x : Int) (m : Nat) : Int := x.sign * ((2 * x.natAbs + m) / (2 * m) : Nat)

/-- The cell weight in grams (R8). -/
def CalRecord.cellWeight (r : CalRecord) (g : Good) : Int :=
  roundAway ((g.count - r.zeros.getD g.cell 0) * (r.spans.getD g.cell 0 : Int)) 1024

/-- The raw deck weight in grams (R9). -/
def CalRecord.rawWeight (r : CalRecord) (good : List Good) : Int :=
  ((good.filter fun g => r.enabled g.cell).map r.cellWeight).sum

/-- The reported weight in kg (R9). -/
def CalRecord.reported (r : CalRecord) (net : Int) : Int := roundAway net (1000 * r.division) * (r.division : Int)

/-- The motion band in grams (R12). -/
def CalRecord.band (r : CalRecord) : Nat := r.motionBand * r.division * 500

/-- A zero lies in the zero range: within 40 × Max grams of Z_cal, boundaries included (R36). -/
def CalRecord.inZeroRange (r : CalRecord) (z : Int) : Bool := decide ((z - r.zCal).natAbs ≤ 40 * r.max)

/-- A cycle is complete: every cell of the enabled set gave a good answer (R7). -/
def CalRecord.complete (r : CalRecord) (good : List Good) : Bool :=
  r.enabledCells.all fun i => good.any fun g => g.cell == i

/-- The status of a complete cycle (R10). -/
def CalRecord.status (r : CalRecord) (good : List Good) (net : Int) : ReadStatus :=
  if good.any (fun g => r.enabled g.cell && g.overrange) || decide (((r.max + 9 * r.division) * 1000 : Nat) < net) then
    .over
  else if net < -((20 * r.division * 1000 : Nat) : Int) then .under
  else .valid

/-! ### The evaluation (R6 to R16) -/

/-- Every count and mark that a cycle without a VALID weight clears (R7, R10, R12). -/
def Weigher.held (u : Weigher) (status : ReadStatus) : Weigher :=
  { u with reading := { u.reading with status := status, current := false, still := 0, track := 0 }
           refPresent := false }

/-- The stillness count and reference after a VALID cycle (R12). -/
def Weigher.stillness (u : Weigher) (r : CalRecord) (net : Int) : Nat × Int :=
  if u.refPresent ∧ (net - u.ref).natAbs ≤ r.band then (min 255 (u.reading.still + 1), u.ref) else (0, net)

/-- A VALID cycle's record update and stillness (R11, R12). -/
def Weigher.takeValid (u : Weigher) (r : CalRecord) (net : Int) : Weigher :=
  { u with
    reading := { u.reading with status := .valid, net := net, weight := r.reported net, current := true
                                still := (u.stillness r net).1 }
    ref := (u.stillness r net).2
    refPresent := true }

/-- A change of the working zero (R14): a present reference shifts with it, current becomes no. -/
def Weigher.setZero (u : Weigher) (z : Int) : Weigher :=
  { u with
    zd := z
    ref := if u.refPresent then u.ref - (z - u.zd) else u.ref
    reading := { u.reading with current := false } }

/-- A VALID cycle qualifies for tracking (R15). `empty` says that the session is VACANT and both loops are CLEAR. -/
def Weigher.qualifies (u : Weigher) (r : CalRecord) (empty : Bool) : Bool :=
  empty && decide (r.stableCount ≤ u.reading.still) && u.reading.net != 0 &&
    decide (u.reading.net.natAbs ≤ r.division * 500)

/-- Zero tracking on a VALID cycle (R15, R16), and whether ZERO_DRIFT is raised. -/
def Weigher.track (u : Weigher) (r : CalRecord) (empty : Bool) : Weigher × Bool :=
  if u.qualifies r empty then
    if u.reading.track + 1 < 20 then ({ u with reading := { u.reading with track := u.reading.track + 1 } }, false)
    else
      let u' := { u with reading := { u.reading with track := 0 } }
      if r.inZeroRange (u.zd + u.reading.net) then (u'.setZero (u.zd + u.reading.net), false) else (u', true)
  else ({ u with reading := { u.reading with track := 0 } }, false)

/-- The evaluation of a complete cycle (R8 to R16), and whether ZERO_DRIFT is raised. -/
def Weigher.takeComplete (u : Weigher) (r : CalRecord) (good : List Good) (empty : Bool) (clock : Seconds) : Weigher × Bool :=
  let raw := r.rawWeight good
  let u' := { u with reading := { u.reading with lastComplete := clock, raw := raw } }
  match r.status good (raw - u.zd) with
  | .valid => (u'.takeValid r (raw - u.zd)).track r empty
  | st => (u'.held st, false)

/-- The evaluation of an incomplete cycle (R7): one that began in WARMING leaves the status NONE and the counts 0, also
where a cell became FAILED in it and the deck FAULT (log 11). -/
def Weigher.takeIncomplete (u : Weigher) (warming : Bool) : Weigher := if warming then u else u.held .partialCycle

/-- The availability after a complete cycle (R11, R19, R20). `failed` says that an enabled cell is FAILED. -/
def Weigher.restored (u : Weigher) (failed : Bool) : Weigher :=
  if u.reading.availability = .warming ∨ (u.reading.availability = .fault ∧ failed = false) then
    { u with reading := { u.reading with availability := .ready } }
  else u

/-- An enabled cell of a deck is FAILED. -/
def Deck.anyFailed (k : Deck) (r : CalRecord) : Bool := r.enabledCells.any fun i => (k.cells.cell i).failed

/-- The events that may leave the deck able to take a call have occurred: it became READY, or a VALID evaluation brought
its reported weight below the threshold (R118). -/
def becameAble (before after : Deck) : Bool :=
  (before.unit.reading.availability != .ready && after.unit.reading.availability == .ready) ||
    (after.unit.reading.status == .valid && before.loaded && !after.loaded)

/-- The end of a cycle, `warming` where it began in WARMING: the evaluation, then the session's part, then the offer (R6, R7,
R23, R118). -/
def State.evaluate (s : State) (d : DeckId) (warming : Bool) (good : List Good) : State :=
  match (s.deck d).cal.record with
  | none => s
  | some r =>
    let k := s.deck d
    let s1 :=
      if r.complete good then
        let e := k.unit.takeComplete r good (k.session.isNone && !s.loopOccupied d) s.service.clock
        let s' := s.setUnit d (e.1.restored (k.anyFailed r))
        if e.2 then s'.raise .zeroDrift (.deck d) else s'
      else s.setUnit d (k.unit.takeIncomplete warming)
    let s2 := s1.sessionEvaluation d
    if becameAble k (s1.deck d) then s2.offer d else s2

/-! ### The cell link (R1 to R5) -/

/-- A READ is sent to the next cell, or the cycle ends (R1). -/
def State.pollNext (s : State) (d : DeckId) (warming : Bool) (todo : List Nat) (good : List Good) : State :=
  match todo with
  | i :: rest =>
    s.setCells d { (s.deck d).cells with
      cycle := some { warming := warming, awaiting := i, todo := rest, good := good, windowDue := s.now + 2000 } }
  | [] => (s.setCells d { (s.deck d).cells with cycle := none }).evaluate d warming good

/-- The polled cells of a cycle that begins: enabled and not FAILED (R1). -/
def Deck.polled (k : Deck) : List Nat :=
  match k.cal.record with
  | some r => r.enabledCells.filter fun i => !(k.cells.cell i).failed
  | none => []

/-- A slot boundary at which cycles may run (R4). -/
def State.takeSlot (s : State) (d : DeckId) : State :=
  let c := (s.deck d).cells
  if s.pollRate d = .full ∨ c.skip = 3 then
    (s.setCells d { c with skip := 0 }).pollNext d ((s.deck d).unit.reading.availability == .warming) (s.deck d).polled []
  else s.setCells d { c with skip := c.skip + 1 }

/-- The next slot boundary of the free-running timer (R1). -/
def State.slotPassed (s : State) (d : DeckId) : State :=
  let s' := s.reach (s.deck d).cells.slotDue
  s'.setCells d { (s'.deck d).cells with slotDue := (s'.deck d).cells.slotDue + 50000 }

/-- A deck becomes FAULT, and its waiting calls are refused (R3, R117). -/
def State.deckFault (s : State) (d : DeckId) : State :=
  let u := (s.deck d).unit
  (s.setUnit d { u with reading := { u.reading with availability := .fault } }).refuseWaiting d

/-- One cell of a deck's link written. -/
def State.setCell (s : State) (d : DeckId) (i : Nat) (c : Cell) : State :=
  s.setCells d { (s.deck d).cells with cells := (s.deck d).cells.cells.set i c }

/-- A miss of a cell (R3). -/
def State.missCell (s : State) (d : DeckId) (i : Nat) : State :=
  let c := (s.deck d).cells.cell i
  if c.misses + 1 < 3 then s.setCell d i { c with misses := c.misses + 1 }
  else
    let s1 := (s.setCell d i { misses := 3, failed := true }).raise .deckFault (.cell d i)
    match (s1.deck d).unit.reading.availability with
    | .ready | .warming => s1.deckFault d
    | _ => s1

/-- A well-formed cell answer frame: address, count and status byte (R188, R189). -/
def cellFrame (f : List Byte) : Option (Nat × Int × Nat) :=
  if f.length = 7 ∧ byteAt f 0 = 0xA3 ∧ byteSum f = 0 then
    some ((byteAt f 1).toNat, (fieldAt 24 f 2 3).toInt, (byteAt f 5).toNat)
  else none

/-- An answer is good: the address that was read, status OK or OVERRANGE (R2). -/
def goodAnswer (awaiting : Nat) (a : Nat × Int × Nat) : Option Good :=
  if a.1 = awaiting ∧ a.2.2 ≤ 1 then some { cell := awaiting, count := a.2.1, overrange := a.2.2 == 1 } else none

/-- The end of the exchange with the awaited cell (R2, R3): good, or a miss. -/
def State.endExchange (s : State) (d : DeckId) (c : Cycle) (g : Option Good) : State :=
  match g with
  | some g => (s.setCell d c.awaiting { (s.deck d).cells.cell c.awaiting with misses := 0 }).pollNext d c.warming c.todo
      (c.good ++ [g])
  | none => (s.missCell d c.awaiting).pollNext d c.warming c.todo c.good

/-! ### Entries into an availability (R19, R21, R22) -/

/-- The entry into WARMING (R19). -/
def State.enterWarming (s : State) (d : DeckId) : State :=
  let k := s.deck d
  let u := k.unit.held .noStatus
  s.setDeck d { k with
    cells := { k.cells with cycle := none }
    unit := { u with reading := { u.reading with availability := .warming }, warmUp := some (s.inSeconds 2) } }

/-- The entry into ASLEEP of a deck that is WARMING, READY or FAULT (R21). -/
def State.enterAsleep (s : State) (d : DeckId) : State :=
  let k := s.deck d
  let u := k.unit.held .noStatus
  match k.unit.reading.availability with
  | .warming | .ready | .fault =>
    s.setDeck d { k with
      cells := { k.cells with cycle := none }
      unit := { u with reading := { u.reading with availability := .asleep }, warmUp := none } }
  | _ => s

/-- The wake of an ASLEEP deck (R14, R21, R148). -/
def State.wakeDeck (s : State) (d : DeckId) : State :=
  match (s.deck d).unit.reading.availability with
  | .asleep => (s.setUnit d ((s.deck d).unit.setZero (s.deck d).cal.zSet)).enterWarming d
  | _ => s

/-- The deck's part of CLEAR_TABLES (R22): UNCALIBRATED, with its record absent and Z_set 0 (R28). -/
def Deck.cleared (k : Deck) : Deck :=
  { k with
    cal := { k.cal with record := none, zSet := 0 }
    cells := { k.cells with cells := List.replicate 8 Cell.healthy, cycle := none }
    unit := { Weigher.reset .uncalibrated 0 none with ref := k.unit.ref } }

/-! ### The commands -/

/-- READ_DECK's fields (R25). -/
def State.deckImage (s : State) (d : DeckId) : DeckImage :=
  let k := s.deck d
  { reading := k.unit.reading, stable := k.stable, zd := k.unit.zd, rate := s.pollRate d
    cells := (List.range 8).map fun i =>
      match k.cal.record with
      | some r =>
        if r.enabled i then { enabled := true, failed := (k.cells.cell i).failed, misses := (k.cells.cell i).misses }
        else { enabled := false, failed := false, misses := 0 }
      | none => { enabled := false, failed := false, misses := 0 } }

/-- READ_DECK (R25). -/
def execReadDeck (deck : Byte) (s : State) : Result :=
  query Code.readDeck (fun s =>
    match deckOf deck with
    | some d => .done (.deck (s.deckImage d))
    | none => .bare .outOfRange) s

/-- RETRY_CELL (R26). -/
def execRetryCell (deck cell : Byte) (s : State) : Result :=
  request Code.retryCell (fun s =>
    match deckOf deck with
    | none => (s, .bare .outOfRange)
    | some d =>
      if 8 ≤ cell.toNat then (s, .bare .outOfRange)
      else match (s.deck d).cal.record with
        | none => (s, .bare .deckUnavailable)
        | some r =>
          if r.enabled cell.toNat then (s.setCell d cell.toNat Cell.healthy, .bare .done)
          else (s, .bare .notFound)) s

/-- A slot boundary of a deck's cycle timer (R1, R4). A slot that finds a cycle in progress begins none (log 25). -/
def execCycleSlot (deck : DeckId) (s : State) : Result :=
  event (fun s =>
    let s' := s.slotPassed deck
    if (s.deck deck).unit.cycling && (s.deck deck).cells.cycle.isNone then s'.takeSlot deck else s') s

/-- A frame received on a deck's cell link (R2, R189). -/
def execCellAnswer (deck : DeckId) (frame : List Byte) (s : State) : Result :=
  event (fun s =>
    match (s.deck deck).cells.cycle, cellFrame frame with
    | some c, some a => s.endExchange deck c (goodAnswer c.awaiting a)
    | _, _ => s) s

/-- The answer window of a deck's cycle lapses: a miss (R2). -/
def execAnswerWindowLapse (deck : DeckId) (s : State) : Result :=
  event (fun s =>
    match (s.deck deck).cells.cycle with
    | some c => (s.reach c.windowDue).endExchange deck c none
    | none => s) s

/-- The warm-up timer of a deck lapses (R4, R19). -/
def execWarmUpLapse (deck : DeckId) (s : State) : Result :=
  event (fun s =>
    match (s.deck deck).unit.warmUp with
    | none => s
    | some due =>
      let s1 := s.reach due
      let k := s1.deck deck
      let s2 := s1.setDeck deck { k with cells := { k.cells with skip := 3 }, unit := { k.unit with warmUp := none } }
      match k.cal.record with
      | some r => if k.anyFailed r then s2.deckFault deck else s2
      | none => s2) s

end Sys2Proof.Machine
end

