-- ==== Sys2Proof/Machine/Calibration.lean ====
section
/-! DEFINITION. Calibration: the commands of the chapter Calibration and Zero Setting (R27 to R38). -/

namespace Sys2Proof.Machine

open Sys2Proof

/-- The record a CAL_PUT body carries, with its change time (R27, R33). -/
def recordOf (b : CalBody) (clock : Seconds) : CalRecord :=
  { cells := b.cells, zeros := b.zeros.map (·.toInt), spans := b.spans.map (·.toNat), zCal := b.zCal.toInt
    max := b.max.toNat, division := b.division.toNat, threshold := b.threshold.toNat
    motionBand := b.motionBand.toNat, stableCount := b.stableCount.toNat, changeTime := clock }

/-- The divisions of R27. -/
def divisions : List Nat := [1, 2, 5, 10, 20, 50, 100]

/-- A valid record: every field within its range and every cross-condition met (R27, R32). -/
def CalRecord.valid (r : CalRecord) : Bool :=
  r.cells != 0 && r.zeros.length == 8 && r.spans.length == 8 &&
    (r.zeros.all fun z => decide (-8388608 ≤ z ∧ z ≤ 8388607)) && (r.spans.all fun x => decide (1 ≤ x ∧ x ≤ 16777215)) &&
    decide (-2000000000 ≤ r.zCal ∧ r.zCal ≤ 2000000000) && decide (1000 ≤ r.max ∧ r.max ≤ 200000) &&
    divisions.contains r.division && decide (1 ≤ r.threshold ∧ r.threshold ≤ r.max) &&
    decide (1 ≤ r.motionBand ∧ r.motionBand ≤ 8) && decide (1 ≤ r.stableCount ∧ r.stableCount ≤ 255) &&
    decide (r.max % r.division = 0) && decide (500 ≤ r.max / r.division ∧ r.max / r.division ≤ 10000)

/-- The Calibration Store's part of an accepted CAL_PUT (R30, R33). -/
def Cal.put (c : Cal) (r : CalRecord) : Cal := { record := some r, changes := c.changes + 1, zSet := r.zCal }

/-- The weighing unit's part of an accepted CAL_PUT, but for the availability (R22). -/
def Weigher.recalibrated (u : Weigher) (z : Int) : Weigher :=
  { u with zd := z, refPresent := false
           reading := { u.reading with status := .noStatus, net := 0, weight := 0, current := false, still := 0
                                       track := 0, raw := 0 } }

/-- The deck of an accepted CAL_PUT before its availability moves: the record replaced, the cycle abandoned, every FAILED
mark and miss count cleared (R22, R33). -/
def Deck.recalibrated (k : Deck) (r : CalRecord) : Deck :=
  { k with
    cal := k.cal.put r
    cells := { k.cells with cells := List.replicate 8 Cell.healthy, cycle := none }
    unit := k.unit.recalibrated r.zCal }

/-- A deck at ASLEEP with its warm-up timer stopped (R21, R22). -/
def Deck.sleeping (k : Deck) : Deck :=
  { k with unit := { k.unit with warmUp := none, reading := { k.unit.reading with availability := .asleep } } }

/-- An accepted CAL_PUT (R22, R33): the deck enters WARMING, or is ASLEEP in quiet running (R18, R21). -/
def State.calibrate (s : State) (d : DeckId) (r : CalRecord) : State :=
  let k := (s.deck d).recalibrated r
  if s.service.quiet then s.setDeck d k.sleeping else (s.setDeck d k).enterWarming d

/-- CAL_PUT (R31 to R33). -/
def execCalPut (closed : Bool) (body : CalBody) (s : State) : Result :=
  request Code.calPut (fun s =>
    let k := s.deck body.deck
    let r := recordOf body s.service.clock
    if !closed then (s, .bare .guarded)
    else if k.session.isSome then (s, .bare .busy)
    else if k.cal.changes = 65535 then (s, .bare .guarded)
    else if !r.valid then (s, .bare .outOfRange)
    else (s.calibrate body.deck r, .bare .done)) s

/-- Z_set as CAL_GET reports it: 0 with the record absent (R35). -/
def Cal.shownZSet (c : Cal) : Int := if c.record.isSome then c.zSet else 0

/-- CAL_GET (R35, R186). -/
def execCalGet (closed : Bool) (deck : Byte) (part : Option Byte) (s : State) : Result :=
  query Code.calGet (fun s =>
    match deckOf deck with
    | none => .bare .outOfRange
    | some d =>
      let c := (s.deck d).cal
      let p := part.getD 0
      if p = 0 then .done (.calPart0 d c.record closed c.changes c.shownZSet)
      else if p = 1 then .done (.calPart1 c.record)
      else .bare .outOfRange) s

/-- The deck of an accepted ZERO (R38). -/
def Deck.zeroed (k : Deck) : Deck :=
  let u := k.unit.setZero k.unit.reading.raw
  { k with cal := { k.cal with zSet := k.unit.reading.raw }, unit := { u with reading := { u.reading with track := 0 } } }

/-- ZERO (R37, R38). -/
def execZero (deck : Byte) (s : State) : Result :=
  request Code.zero (fun s =>
    match deckOf deck with
    | none => (s, .bare .outOfRange)
    | some d =>
      let k := s.deck d
      match k.cal.record with
      | none => (s, .bare .deckUnavailable)
      | some r =>
        if k.unit.reading.availability ≠ .ready then (s, .bare .deckUnavailable)
        else if k.session.isSome then (s, .bare .wrongState)
        else if !k.stable then (s, .bare .wrongState)
        else if !r.inZeroRange k.unit.reading.raw then (s, .bare .outOfRange)
        else (s.setDeck d k.zeroed, .bare .done)) s

end Sys2Proof.Machine
end

