-- ==== Sys2Proof/Machine/Visits.lean ====
section
/-! DEFINITION. Visits: the commands of the chapter The Visit Register (R52 to R64), and the examination of a visit
request (R55). -/

namespace Sys2Proof.Machine

open Sys2Proof

/-! ### Lookups and the walk -/

/-- The slot a FIND returns, or the outcome that refuses it (R52). -/
def State.findKey (s : State) (mode : Byte) (key : List Byte) : Except ReplyCode Nat :=
  if mode = 1 then
    match keySlot key with
    | some n => .ok n
    | none => .error .outOfRange
  else if mode = 2 then
    match keyTag key with
    | none => .error .outOfRange
    | some t => match s.findSlot (Visit.openTag t) with
      | some n => .ok n
      | none => .error .notFound
  else if mode = 3 then
    match plateOf key with
    | none => .error .outOfRange
    | some p => match s.findSlot (Visit.openPlate p) with
      | some n => .ok n
      | none => .error .notFound
  else if mode = 4 then
    match keyTicket key with
    | none => .error .outOfRange
    | some t => match s.findSlot (fun v => v.ticket.any fun k => k.number == t) with
      | some n => .ok n
      | none => .error .notFound
  else if mode = 5 then
    let n := (s.register.cursor.position : Int) + keyOffset key
    if 0 ≤ n ∧ n ≤ 127 then .ok n.toNat else .error .outOfRange
  else .error .malformed

/-- FIND (R52). -/
def execFind (mode : Byte) (key : List Byte) (s : State) : Result :=
  query Code.find (fun s =>
    match s.findKey mode key with
    | .ok n => .done (.visit (s.snapshot n))
    | .error c => .bare c) s

/-- The walk cursor replaced (R53). -/
def State.setCursor (s : State) (c : Cursor) : State := { s with register := { s.register with cursor := c } }

/-- SEEK (R53). -/
def execSeek (slot step filter : Byte) (s : State) : Result :=
  request Code.seek (fun s =>
    match slotOf slot, stepOf step, filterOf filter with
    | some n, some st, some f =>
      match s.seekFrom st f n with
      | some m =>
        (s.setCursor { position := m, step := st, filter := f, buffer := some (s.snapshot m) }, .done (.seekSlot m))
      | none => (s.setCursor { position := n, step := st, filter := f, buffer := none }, .done .walkEnd)
    | _, _, _ => (s, .bare .outOfRange)) s

/-- WALK (R54). -/
def execWalk (s : State) : Result :=
  request Code.walk (fun s =>
    let c := s.register.cursor
    match c.buffer with
    | none => (s, .done .walkEnd)
    | some snap =>
      match s.stepFrom c.step c.filter snap.number with
      | some m => (s.setCursor { c with position := m, buffer := some (s.snapshot m) }, .done (.visit snap))
      | none => (s.setCursor { c with position := snap.number, buffer := none }, .done (.visit snap))) s

/-! ### Host changes to visits (R55) -/

/-- The answer of a refused visit request: the slot's revision as it stands (R55). -/
def State.refuseVisit (s : State) (n : Nat) (c : ReplyCode) : State × Reply :=
  (s, { code := c, body := .revision (s.slot n).revision })

/-- The DONE answer of a visit request: the slot's revision after it (R55). -/
def State.doneVisit (s : State) (n : Nat) : State × Reply := (s, .done (.revision (s.slot n).revision))

/-- The same for a request whose visit may join waiting tickets: the answer carries the revision its own write gave,
and the arbiter makes its choice in the same event (R154, R161, R162; log 13). -/
def State.doneAndServe (s : State) (n : Nat) : State × Reply :=
  (s.serveBus, .done (.revision (s.slot n).revision))

/-- Steps 1 and 2 of R55, then the request's own part on the slot, which examines the state (step 3). -/
def State.visitRequest (s : State) (slot : Byte) (expected : Option Revision) (own : Nat → State × Reply) :
    State × Reply :=
  match slotOf slot with
  | none => (s, .bare .outOfRange)
  | some n =>
    if expected.any fun r => r != (s.slot n).revision then s.refuseVisit n .stale else own n

/-- A field AMEND carries, examined: not carried, out of range, or its new value (R56). -/
def amendKind (k : Option Byte) : Except ReplyCode (Option Nat) :=
  match k with
  | none => .ok none
  | some b => match kindCodeOf b with
    | some c => .ok (some c)
    | none => .error .outOfRange

/-- The plate AMEND carries, examined (R44, R56). -/
def amendPlate (p : Option (List Byte)) : Except ReplyCode (Option Plate) :=
  match p with
  | none => .ok none
  | some l => match plateOf l with
    | some q => .ok (some q)
    | none => .error .outOfRange

/-- AMEND's check of a new kind against the visit's direction (R56). -/
def State.amendKindFails (s : State) (v : Visit) (k : Option Nat) : Bool :=
  k.any fun c => !((s.kind c).accepted && (s.kind c).allows v.direction)

/-- AMEND's check of a new plate against the other open visits (R56). -/
def State.amendPlateFails (s : State) (v : Visit) (p : Option Plate) : Bool :=
  p.any fun q => q != v.plate && (s.findSlot (Visit.openPlate q)).isSome

/-- AMEND's check of a new account (R56). -/
def State.amendAccountFails (s : State) (v : Visit) (a : Option AccountNo) : Bool :=
  a.any fun n => accountOf n != v.account && (s.accountCheck (accountOf n)).isSome

/-- The visit with the carried fields written (R56). -/
def Visit.amended (v : Visit) (k : Option Nat) (p : Option Plate) (a : Option AccountNo) : Visit :=
  { v with kind := k.getD v.kind, plate := p.getD v.plate
           account := match a with
             | some n => accountOf n
             | none => v.account }

/-- The on-site counts after a visit's account has changed (R56, R75). -/
def State.moveAccount (s : State) (before after : Option AccountNo) : State :=
  if before = after then s else (s.countDown before).countUp after

/-- AMEND on an ON_SITE visit, its fields examined in the order of R56. -/
def State.amend (s : State) (n : Nat) (v : Visit) (kind : Option Byte) (plate : Option (List Byte))
    (account : Option AccountNo) : State × Reply :=
  match amendKind kind, amendPlate plate with
  | .ok k, .ok p =>
    if s.amendKindFails v k then s.refuseVisit n .refused
    else if s.amendPlateFails v p then s.refuseVisit n .conflict
    else if s.amendAccountFails v account then s.refuseVisit n .refused
    else ((s.writeSlot n (some (v.amended k p account))).moveAccount v.account (v.amended k p account).account).doneVisit n
  | _, _ => s.refuseVisit n .outOfRange

/-- AMEND (R55, R56). -/
def execAmend (slot : Byte) (expected : Option Revision) (kind : Option Byte) (plate : Option (List Byte))
    (account : Option AccountNo) (s : State) : Result :=
  request Code.amend (fun s => s.visitRequest slot expected fun n =>
    match s.visit n with
    | some v => match v.state with
      | .onSite _ => s.amend n v kind plate account
      | _ => s.refuseVisit n .wrongState
    | none => s.refuseVisit n .wrongState) s

/-- CANCEL_VISIT (R55, R57). -/
def execCancelVisit (slot : Byte) (expected : Option Revision) (s : State) : Result :=
  request Code.cancelVisit (fun s => s.visitRequest slot expected fun n =>
    match s.visit n with
    | some v => match v.state with
      | .onSite _ => ((s.writeSlot n none).countDown v.account).doneVisit n
      | _ => s.refuseVisit n .wrongState
    | none => s.refuseVisit n .wrongState) s

/-- A net override within its range 0 … 200,000 kg (R58). The field is a signed weight (R184). -/
def overrideOf (net : BitVec 32) : Option Nat :=
  if 0 ≤ net.toInt ∧ net.toInt ≤ 200000 then some net.toInt.toNat else none

/-- RESOLVE CLOSE on a HELD visit (R58). -/
def State.resolveClose (s : State) (n : Nat) (v : Visit) (first second : Weighing) (target : Byte)
    (net : Option (BitVec 32)) : State × Reply :=
  match targetOf target with
  | none => s.refuseVisit n .outOfRange
  | some t =>
    match net with
    | some x =>
      match overrideOf x with
      | some k => (s.closeRecord n v ⟨first, second, k, true, t, false⟩).doneAndServe n
      | none => s.refuseVisit n .outOfRange
    | none =>
      let k := netOf v.direction first second
      match heldReason k (s.eMax first second) with
      | some _ => s.refuseVisit n .wrongState
      | none => (s.closeRecord n v ⟨first, second, k, false, t, false⟩).doneAndServe n

/-- RESOLVE DISCARD on a HELD visit (R59). -/
def State.resolveDiscard (s : State) (n : Nat) : State × Reply := (s.writeSlot n none).doneVisit n

/-- RESOLVE with an action other than DISCARD (R55, R58). The action DISCARD has its own row and does here what it
does there (log 21). -/
def execResolveClose (slot : Byte) (expected : Option Revision) (action target : Byte) (net : Option (BitVec 32))
    (s : State) : Result :=
  request Code.resolve (fun s => s.visitRequest slot expected fun n =>
    match s.visit n with
    | some v => match v.state with
      | .held first second _ _ =>
        if action = 1 then s.resolveClose n v first second target net
        else if action = 2 then s.resolveDiscard n
        else s.refuseVisit n .outOfRange
      | _ => s.refuseVisit n .wrongState
    | none => s.refuseVisit n .wrongState) s

/-- RESOLVE with the action DISCARD (R55, R59). -/
def execResolveDiscard (slot : Byte) (expected : Option Revision) (s : State) : Result :=
  request Code.resolve (fun s => s.visitRequest slot expected fun n =>
    match s.visit n with
    | some v => match v.state with
      | .held _ _ _ _ => s.resolveDiscard n
      | _ => s.refuseVisit n .wrongState
    | none => s.refuseVisit n .wrongState) s

/-- COLLECT (R55, R60, R61). -/
def execCollect (slot : Byte) (expected : Option Revision) (s : State) : Result :=
  request Code.collect (fun s => s.visitRequest slot expected fun n =>
    match s.visit n with
    | some v => match v.state with
      | .closed t => (s.writeSlot n (v.afterTicket { t with collected := true })).doneVisit n
      | _ => s.refuseVisit n .wrongState
    | none => s.refuseVisit n .wrongState) s

/-- SET_TICKET_NEXT (R64). -/
def execSetTicketNext (number : BitVec 32) (s : State) : Result :=
  request Code.setTicketNext (fun s =>
    if number.toNat < 1 ∨ 99999999 < number.toNat then (s, .bare .outOfRange)
    else if (s.findSlot Visit.isClosed).isSome then (s, .bare .wrongState)
    else ({ s with register := { s.register with nextTicket := number.toNat } }, .bare .done)) s

end Sys2Proof.Machine
end

