-- ==== Sys2Proof/Machine/Tables.lean ====
section
/-! DEFINITION. Tables: the commands of the chapter Vehicles, Accounts and Waste Kinds (R67 to R84). -/

namespace Sys2Proof.Machine

open Sys2Proof

/-! ### Vehicles -/

/-- The registration a PUT_VEHICLE body carries, its fields examined; the tare stands apart (R69 step 1). -/
def registrationOf (b : VehicleBody) : Option (Vehicle × TareMode) :=
  match tagOf b.tag, plateOf b.plate, accountOf b.account, kindCodeOf b.kind, directionOf b.direction, barredOf b.state,
      flagOf b.autoTare, tareModeOf b.tareMode with
  | some t, some p, some a, some k, some d, some x, some at', some m =>
    if 1 ≤ b.validity.toNat ∧ b.validity.toNat ≤ 365 then
      some ({ tag := t, plate := p, account := a, kind := k, direction := d, barred := x, autoTare := at', tare := none
              validity := b.validity.toNat }, m)
    else none
  | _, _, _, _, _, _, _, _ => none

/-- The tare a PUT_VEHICLE body carries, examined with SET (R69 step 2). The weight is a signed field (R184). -/
def tareOf (b : VehicleBody) : Option Tare :=
  match deckOf b.tareDeck with
  | some d =>
    if 0 ≤ b.tareWeight.toInt ∧ b.tareWeight.toInt ≤ 200000 ∧ b.tareDay.toNat ≤ 49710 then
      some ⟨b.tareWeight.toInt.toNat, b.tareDay.toNat, d⟩
    else none
  | none => none

/-- The stored tare a PUT_VEHICLE writes (R70). -/
def State.tareWritten (s : State) (t : Tag) (m : TareMode) (carried : Option Tare) : Option Tare :=
  match m with
  | .keep => (s.vehicle t).bind (·.tare)
  | .set => carried
  | .clear => none

/-- Another entry, under another tag, carries the plate (R69 step 3). -/
def State.plateTaken (s : State) (t : Tag) (p : Plate) : Bool :=
  s.vehicles.any fun v => v.plate == p && v.tag != t

/-- PUT_VEHICLE (R69, R70). -/
def execPutVehicle (body : VehicleBody) (s : State) : Result :=
  request Code.putVehicle (fun s =>
    match registrationOf body with
    | none => (s, .bare .outOfRange)
    | some (v, m) =>
      if m = .set ∧ (tareOf body).isNone then (s, .bare .outOfRange)
      else if s.plateTaken v.tag v.plate then (s, .bare .conflict)
      else if (s.vehicle v.tag).isNone ∧ 512 ≤ s.vehicles.length then (s, .bare .full)
      else (s.putVehicle { v with tare := s.tareWritten v.tag m (tareOf body) }, .bare .done)) s

/-- The answer of GET_VEHICLE for an entry, or NOT_FOUND (R71). -/
def State.vehicleReply (s : State) (v : Option Vehicle) : Reply :=
  match v with
  | some e => .done (.vehicle e (e.tareValid (dayOf s.service.clock)) (dayOf s.service.clock))
  | none => .bare .notFound

/-- GET_VEHICLE (R71). -/
def execGetVehicle (mode : Byte) (key : List Byte) (s : State) : Result :=
  query Code.getVehicle (fun s =>
    if mode = 2 then
      match keyTag key with
      | some t => s.vehicleReply (s.vehicle t)
      | none => .bare .outOfRange
    else if mode = 3 then
      match plateOf key with
      | some p => s.vehicleReply (s.vehicles.find? fun v => v.plate == p)
      | none => .bare .outOfRange
    else .bare .malformed) s

/-- DROP_VEHICLE (R72). -/
def execDropVehicle (tag : Tag) (s : State) : Result :=
  request Code.dropVehicle (fun s =>
    match tagOf tag with
    | none => (s, .bare .outOfRange)
    | some t =>
      if (s.vehicle t).isNone then (s, .bare .notFound)
      else ({ s with vehicles := s.vehicles.filter fun v => v.tag != t }, .bare .done)) s

/-- The tare SET_TARE_FROM_DECK stores (R73). -/
def State.tareFromDeck (s : State) (d : DeckId) : Tare :=
  ⟨(s.deck d).unit.reading.weight.toNat, dayOf s.service.clock, d⟩

/-- SET_TARE_FROM_DECK (R73). -/
def execSetTareFromDeck (tag : Tag) (deck : Byte) (s : State) : Result :=
  request Code.setTareFromDeck (fun s =>
    match tagOf tag, deckOf deck with
    | some t, some d =>
      let k := s.deck d
      match s.vehicle t with
      | none => (s, .bare .notFound)
      | some e =>
        if k.unit.reading.availability ≠ .ready then (s, .bare .deckUnavailable)
        else if k.session.isSome then (s, .bare .wrongState)
        else if !k.stable || !k.unit.reading.current then (s, .bare .wrongState)
        else if !k.loaded || !k.withinMax then (s, .bare .wrongState)
        else (s.putVehicle { e with tare := some (s.tareFromDeck d) }, .done (.tare (s.tareFromDeck d)))
    | _, _ => (s, .bare .outOfRange)) s

/-! ### Accounts -/

/-- The account PUT_ACCOUNT creates (R76). -/
def newAccount (n : AccountNo) (opening floor : Int) (limit : Nat) : Account :=
  { number := n, state := if floor < opening then .active else .stoppedAuto, balance := opening, floor := floor
    limit := limit, count := 0 }

/-- PUT_ACCOUNT (R76, R77). -/
def execPutAccount (number : AccountNo) (opening floor : BitVec 32) (limit : Byte) (s : State) : Result :=
  request Code.putAccount (fun s =>
    let l := clamp 1 32 limit.toNat
    let adjusted := clamped 1 32 limit.toNat
    match accountOf number with
    | none => (s, .bare .outOfRange)
    | some n =>
      match s.account n with
      | some a =>
        let a' := { a with floor := floor.toInt, limit := l }.settle
        (s.putAccount a', { code := .done, adjusted := adjusted, body := .account a' })
      | none =>
        if 64 ≤ s.accounts.length then (s, .bare .full)
        else
          let a' := newAccount n opening.toInt floor.toInt l
          (s.putAccount a', { code := .done, adjusted := adjusted, body := .account a' })) s

/-- The examination that the account requests share: the number's range, then the account it names (R78 to R82). -/
def State.withAccount (s : State) (number : AccountNo) (own : Account → State × Reply) : State × Reply :=
  match accountOf number with
  | none => (s, .bare .outOfRange)
  | some n =>
    match s.account n with
    | none => (s, .bare .notFound)
    | some a => own a

/-- GET_ACCOUNT (R82). -/
def execGetAccount (number : AccountNo) (s : State) : Result :=
  query Code.getAccount (fun s => (s.withAccount number fun a => (s, .done (.account a))).2) s

/-- An account after a CREDIT (R78). -/
def Account.credit (a : Account) (amount : Int) : Account :=
  if amount = 0 then a else { a with balance := saturate (a.balance + amount) }.settle

/-- CREDIT (R78). -/
def execCredit (number : AccountNo) (amount : BitVec 32) (s : State) : Result :=
  request Code.credit (fun s => s.withAccount number fun a =>
    let a' := a.credit amount.toInt
    let s' := s.putAccount a'
    (if a.stops a' then s'.raise .accountStopped (.account a.number) else s', .done (.account a'))) s

/-- STOP (R79). -/
def execStop (number : AccountNo) (s : State) : Result :=
  request Code.stop (fun s => s.withAccount number fun a =>
    (s.putAccount { a with state := .stoppedHold }, .done (.account { a with state := .stoppedHold }))) s

/-- The state of an account released from its hold (R80). -/
def Account.released (a : Account) : Account :=
  { a with state := if a.floor < a.balance then .active else .stoppedAuto }

/-- RELEASE (R80). -/
def execRelease (number : AccountNo) (s : State) : Result :=
  request Code.release (fun s => s.withAccount number fun a =>
    match a.state with
    | .stoppedHold => (s.putAccount a.released, .done (.account a.released))
    | _ => (s, .bare .wrongState)) s

/-- A HELD or CLOSED visit carries the account (R81 step 4). -/
def Visit.keepsAccount (n : AccountNo) (v : Visit) : Bool := !v.isOpen && v.account == some n

/-- DROP_ACCOUNT (R81). -/
def execDropAccount (number : AccountNo) (s : State) : Result :=
  request Code.dropAccount (fun s => s.withAccount number fun a =>
    if 0 < a.count then (s, .bare .wrongState)
    else if (s.findSlot (Visit.keepsAccount a.number)).isSome then (s, .bare .wrongState)
    else ({ s with accounts := s.accounts.filter fun x => x.number != a.number }, .bare .done)) s

/-! ### Waste kinds -/

/-- The waste kind a PUT_KIND carries, its fields examined (R84). -/
def kindOf (accepted directions : Byte) (rate minimum : BitVec 32) : Option Kind :=
  match flagOf accepted, kindDirectionsOf directions with
  | some a, some d =>
    if rate.toNat ≤ 10000000 ∧ minimum.toNat ≤ 1000000 then some ⟨a, d, rate.toNat, minimum.toNat⟩ else none
  | _, _ => none

/-- PUT_KIND (R84). -/
def execPutKind (code accepted directions : Byte) (rate minimum : BitVec 32) (s : State) : Result :=
  request Code.putKind (fun s =>
    match kindCodeOf code, kindOf accepted directions rate minimum with
    | some c, some k => ({ s with kinds := s.kinds.set (c - 1) k }, .bare .done)
    | _, _ => (s, .bare .outOfRange)) s

/-- GET_KIND (R84). -/
def execGetKind (code : Byte) (s : State) : Result :=
  query Code.getKind (fun s =>
    match kindCodeOf code with
    | some c => .done (.kind c (s.kind c))
    | none => .bare .outOfRange) s

end Sys2Proof.Machine
end

