-- ==== Sys2Proof/Machine/Gates.lean ====
section
/-! DEFINITION. Gates: the commands of the chapter Gates (R91 to R111), but for the loop, the reader and the emergency,
which reach other blocks. -/

namespace Sys2Proof.Machine

open Sys2Proof

/-- SET_GATE (R91). -/
def execSetGate (gate warn drive settle : Byte) (s : State) : Result :=
  request Code.setGate (fun s =>
    match gateOf gate with
    | none => (s, .bare .outOfRange)
    | some g =>
      let w := clamp 0 20 warn.toNat
      let d := clamp 1 30 drive.toNat
      let t := clamp 0 10 settle.toNat
      (s.setGate g { s.gate g with warnTime := w, driveLimit := d, settleTime := t },
        { code := .done, adjusted := clamped 0 20 warn.toNat || clamped 1 30 drive.toNat || clamped 0 10 settle.toNat
          body := .gateTimes w d t })) s

/-- The host may not move the barrier of a gate (R104, steps 2 to 5). -/
def State.hostBarred (s : State) (g : GateId) : Bool :=
  s.emergency.latch || s.service.quiet || (s.deck g.deck).session.isSome ||
    (s.gate g).barrier == .fault || (s.gate g).barrier == .forced

/-- A host motion request, RAISE or LOWER (R104). -/
def State.hostMove (s : State) (gate : Byte) (f : Gate → Gate) : State × Reply :=
  match gateOf gate with
  | none => (s, .bare .outOfRange)
  | some g =>
    if s.hostBarred g then (s, .bare .wrongState)
    else (s.gateEvent g f, .done (.motion (f (s.gate g)).barrier (f (s.gate g)).request))

/-- RAISE (R104). -/
def execRaise (gate : Byte) (s : State) : Result :=
  request Code.raise (fun s => s.hostMove gate fun g => g.raiseRequest s.now .host) s

/-- LOWER (R104). -/
def execLower (gate : Byte) (s : State) : Result :=
  request Code.lower (fun s => s.hostMove gate fun g => g.lowerRequest s.now .host) s

/-- RESET_GATE (R101). Its answer carries the barrier after all that follows in the event: where the session tests its
conditions at the restored barrier and moves it on, the barrier as moved. -/
def execResetGate (gate : Byte) (s : State) : Result :=
  request Code.resetGate (fun s =>
    match gateOf gate with
    | none => (s, .bare .outOfRange)
    | some g =>
      if (s.gate g).barrier ≠ .fault then (s, .bare .wrongState)
      else if !(s.gate g).placed then (s, .bare .wrongState)
      else
        let s' := s.gateEvent g fun x => x.restore s.now s.emergency.latch
        (s', .done (.barrier (s'.gate g).barrier))) s

/-- LOCK (R102). -/
def execLock (gate : Byte) (s : State) : Result :=
  request Code.lock (fun s =>
    match gateOf gate with
    | none => (s, .bare .outOfRange)
    | some g => (s.setGate g { s.gate g with locked := true }, .bare .done)) s

/-- A gate unlocked, with the raise the lock held, and the offer where the gate holds a waiting call (R102, R118). A gate
already UNLOCKED is left alone. -/
def State.unlockGate (s : State) (g : GateId) : State :=
  if (s.gate g).locked then
    let s' := s.gateEvent g fun x => x.unlock s.now
    if (s.gate g).waiting.isSome then s'.offer g.deck else s'
  else s

/-- UNLOCK (R102, R118). -/
def execUnlock (gate : Byte) (s : State) : Result :=
  request Code.unlock (fun s =>
    match gateOf gate with
    | none => (s, .bare .outOfRange)
    | some g => (s.unlockGate g, .bare .done)) s

/-- READ_GATE's fields (R111). -/
def Gate.image (g : Gate) : GateImage :=
  { barrier := g.barrier, request := g.request, locked := g.locked, pass := g.pass, green := g.green
    occupied := g.occupied, upSwitch := g.upSwitch, downSwitch := g.downSwitch, warnTime := g.warnTime
    driveLimit := g.driveLimit, settleTime := g.settleTime, memory := g.memory.map (·.tag), drops := g.drops
    waiting := g.waiting.isSome }

/-- READ_GATE (R111). A clear option that is no yes/no value is refused (R184; log 20). -/
def execReadGate (gate clear : Byte) (s : State) : Result :=
  request Code.readGate (fun s =>
    match gateOf gate, flagOf clear with
    | some g, some c =>
      (if c then s.setGate g { s.gate g with drops := 0 } else s, .done (.gate (s.gate g).image))
    | _, _ => (s, .bare .outOfRange)) s

/-- A limit switch's qualified level changes (R100). A level that is already there is no change (log 4). -/
def execLimitSwitchChange (gate : GateId) (switch : LimitSwitch) (active : Bool) (s : State) : Result :=
  event (fun s =>
    let g := s.gate gate
    let before := match switch with
      | .up => g.upSwitch
      | .down => g.downSwitch
    if before = active then s else s.gateEvent gate fun x => x.switchChange s.now switch active) s

/-- A phase timer of a gate lapses while it runs (log 3, log 4). -/
def State.phaseLapse (s : State) (g : GateId) (p : Phase) (f : Nat → Gate → Gate) : State :=
  match (s.gate g).phaseDue p with
  | some due =>
    let s' := s.reach due
    s'.gateEvent g (f s'.now)
  | none => s

/-- The warn timer of a gate lapses (R93). -/
def execWarnTimeLapse (gate : GateId) (s : State) : Result :=
  event (fun s => s.phaseLapse gate .warn fun now g => g.warnLapse now) s

/-- The drive limit of a gate lapses before its target switch (R100). -/
def execDriveLimitLapse (gate : GateId) (s : State) : Result :=
  event (fun s => s.phaseLapse gate .drive fun _ g => g.driveLapse) s

/-- The settle timer of a gate lapses (R93). -/
def execSettleTimeLapse (gate : GateId) (s : State) : Result :=
  event (fun s => s.phaseLapse gate .settle fun now g => g.settleLapse now) s

end Sys2Proof.Machine
end

