-- ==== Sys2Proof/Machine/Sessions.lean ====
section
/-! DEFINITION. Sessions: the commands of the chapter Deck Sessions (R114 to R133) and the timers of calls and
sessions. -/

namespace Sys2Proof.Machine

open Sys2Proof

/-! ### CALL (R114) -/

/-- The form a CALL carries, its fields examined against the gate's end (R114, steps 1 to 3). -/
def callFormOf (side : GateEnd) (form : Byte) (key : List Byte) (account : AccountNo) (kind direction : Byte) :
    Option CallForm :=
  if form = 1 then (keyTag key).map .tag
  else if form = 2 then
    match side, plateOf key, kindCodeOf kind, directionOf direction with
    | .road, some p, some k, some d => some (.plate p (accountOf account) k d)
    | _, _, _, _ => none
  else if form = 3 then
    match side with
    | .yard => (keySlot key).map .slot
    | .road => none
  else none

/-- The answer to a host CALL (R115). -/
def Decision.reply : Decision → Reply
  | .taken n => .done (.taken n)
  | .waits => .done .waiting
  | .unavailable => { code := .deckUnavailable, body := .reason .deckUnavailable }
  | .refused r => { code := .refused, body := .reason r }

/-- CALL (R114, R115). -/
def execCall (gate form : Byte) (key : List Byte) (account : AccountNo) (kind direction : Byte) (s : State) : Result :=
  request Code.call (fun s =>
    match gateOf gate with
    | none => (s, .bare .outOfRange)
    | some g =>
      match callFormOf g.side form key account kind direction with
      | none => (s, .bare .outOfRange)
      | some f =>
        if s.service.quiet then (s, .bare .wrongState)
        else ((s.arbitrateCall g f).1, (s.arbitrateCall g f).2.reply)) s

/-! ### MANUAL_CAPTURE and CANCEL_SESSION -/

/-- A weight MANUAL_CAPTURE may give: a whole multiple of the division in 0 … Max (R126 step 3). -/
def Deck.takesWeight (k : Deck) (w : Int) : Bool :=
  match k.cal.record with
  | some r => decide (0 ≤ w ∧ w ≤ r.max ∧ w % r.division = 0)
  | none => false

/-- MANUAL_CAPTURE (R126). -/
def execManualCapture (deck : Byte) (weight : BitVec 32) (s : State) : Result :=
  request Code.manualCapture (fun s =>
    match deckOf deck with
    | none => (s, .bare .outOfRange)
    | some d =>
      match (s.deck d).session with
      | none => (s, .bare .wrongState)
      | some v =>
        if v.stage ≠ .onDeck then (s, .bare .wrongState)
        else if !(s.deck d).takesWeight weight.toInt then (s, .bare .outOfRange)
        else
          let w : Weighing := { weight := weight.toInt, deck := d, time := s.service.clock, origin := .manual }
          (s.captureInto d v w, .done (.captured v.slot (s.capture v.slot d w).2))) s

/-- CANCEL_SESSION in CALLED, and the lapse of the board timer: the visit is undone and the session turns back
(R122, R130). -/
def State.giveUp (s : State) (d : DeckId) (v : Serving) : State := (s.undo v.slot).enterClearing d v.turned

/-- CANCEL_SESSION in BOARDING (R130): the pass flag goes, the session is LEAVING with its clear mark as it stood. -/
def State.cancelBoarding (s : State) (d : DeckId) (v : Serving) : State :=
  ((s.undo v.slot).setPass (v.entryGate d) false).setSession d
    (some { v.turned with stage := .leaving, boardDue := none, captureDue := none })

/-- CANCEL_SESSION in ON_DECK (R127, R130). -/
def State.cancelOnDeck (s : State) (d : DeckId) (v : Serving) : State := (s.undo v.slot).enterReleased d v.turned

/-- The weight check of a session that has released its vehicle may be waived: the deck is FAULT, or its reading's status
is other than VALID (R131). -/
def Deck.waivable (k : Deck) : Bool :=
  k.unit.reading.availability == .fault || k.unit.reading.status != .valid

/-- An accepted CANCEL_SESSION, none where it is refused (R130, R131). -/
def State.cancel (s : State) (d : DeckId) (v : Serving) : Option State :=
  match v.stage with
  | .called => some (s.giveUp d v)
  | .boarding => some (s.cancelBoarding d v)
  | .onDeck => some (s.cancelOnDeck d v)
  | .released | .leaving | .clearing =>
    if (s.deck d).waivable then some (s.clearWaived d v) else none

/-- CANCEL_SESSION (R130, R131). -/
def execCancelSession (deck : Byte) (s : State) : Result :=
  request Code.cancelSession (fun s =>
    match deckOf deck with
    | none => (s, .bare .outOfRange)
    | some d =>
      match (s.deck d).session with
      | none => (s, .bare .wrongState)
      | some v =>
        match s.cancel d v with
        | some s' => (s', .done (.stage ((s'.deck d).session.map (·.stage))))
        | none => (s, .bare .wrongState)) s

/-! ### Timers and reading -/

/-- SET_DECK_TIMERS (R132). -/
def execSetDeckTimers (deck : Byte) (board capture wait : BitVec 16) (s : State) : Result :=
  request Code.setDeckTimers (fun s =>
    match deckOf deck with
    | none => (s, .bare .outOfRange)
    | some d =>
      let t : DeckTimes := { boardTime := clamp 10 300 board.toNat, captureTime := clamp 10 600 capture.toNat
                             callWait := clamp 5 300 wait.toNat }
      (s.setDeck d { s.deck d with times := t },
        { code := .done
          adjusted := clamped 10 300 board.toNat || clamped 10 600 capture.toNat || clamped 5 300 wait.toNat
          body := .deckTimes t })) s

/-- The time left to a moment in whole seconds, rounded up (R133, R164). -/
def State.secondsTo (s : State) (due : Nat) : Nat := (due - s.now + 999999) / 1000000

/-- A waiting call as READ_SESSION reports it (R133). -/
def State.callImage (s : State) (g : GateId) : Option CallImage :=
  (s.gate g).waiting.map fun c => { form := c.form, age := s.stamp - c.stamp, left := s.secondsTo c.due }

/-- READ_SESSION's fields (R133). In VACANT the record is absent whole, its clear mark and check waiver with it; in every
other state both marks stand in it, as no where R112 does not list the state: the model's choice, for R112 lists the states
they are present in and gives them the value no elsewhere (log 37). -/
def State.sessionImage (s : State) (d : DeckId) : SessionImage :=
  let v := (s.deck d).session
  { record := v, boardLeft := (v.bind (·.boardDue)).map s.secondsTo, captureLeft := (v.bind (·.captureDue)).map s.secondsTo
    times := (s.deck d).times, roadCall := s.callImage (d.gate .road), yardCall := s.callImage (d.gate .yard) }

/-- READ_SESSION (R133). -/
def execReadSession (deck : Byte) (s : State) : Result :=
  query Code.readSession (fun s =>
    match deckOf deck with
    | some d => .done (.session (s.sessionImage d))
    | none => .bare .outOfRange) s

/-- The wait timer of a gate's waiting call lapses (R116). -/
def execCallWaitLapse (gate : GateId) (s : State) : Result :=
  event (fun s =>
    match (s.gate gate).waiting with
    | some c => ((s.reach c.due).dropWaiting gate).raise .callExpired (.gate gate)
    | none => s) s

/-- The board timer of a session in CALLED lapses (R122). -/
def execBoardTimerLapse (deck : DeckId) (s : State) : Result :=
  event (fun s =>
    match (s.deck deck).session with
    | some v =>
      match v.stage, v.boardDue with
      | .called, some due => (s.reach due).giveUp deck v
      | _, _ => s
    | none => s) s

/-- The capture timer of a session in ON_DECK lapses (R123). -/
def execCaptureTimerLapse (deck : DeckId) (s : State) : Result :=
  event (fun s =>
    match (s.deck deck).session with
    | some v =>
      match v.stage, v.captureDue with
      | .onDeck, some due =>
        ((s.reach due).setSession deck (some { v with captureDue := none })).raise .captureTimeout (.deck deck)
      | _, _ => s
    | none => s) s

end Sys2Proof.Machine
end

