-- ==== Sys2Proof/Machine/Emergency.lean ====
section
/-! DEFINITION. Emergency: the emergency latch, quiet running and its wakes (R137 to R148), with the commands of that
chapter, the loop event and the reader event. -/

namespace Sys2Proof.Machine

open Sys2Proof

/-- An operation on each gate in turn: 1R, 1Y, 2R, 2Y (log 14). -/
def State.eachGate (s : State) (f : State → GateId → State) : State := f (f (f (f s .g1R) .g1Y) .g2R) .g2Y

/-- An operation on each deck in turn (log 14). -/
def State.eachDeck (s : State) (f : State → DeckId → State) : State := f (f s .d1) .d2

/-! ### Waking (R148) -/

/-- A wake that ends quiet running (R148). -/
def State.wakeYard (s : State) (cause : WakeCause) : State :=
  let s1 := { s with service := { s.service with quiet := false, wake := some cause } }
  (s1.eachDeck State.wakeDeck).raise .woken (.wake cause)

/-- A wake source: it wakes the yard only while the quiet state is ON (R147). -/
def State.wakeSource (s : State) (cause : WakeCause) : State := if s.service.quiet then s.wakeYard cause else s

/-! ### The emergency latch (R137 to R140) -/

/-- A session ends at the setting of the latch (R139): its visit is undone unless it was settled, its gates' pass flags
go, and it is VACANT. -/
def State.abortSession (s : State) (d : DeckId) : State :=
  match (s.deck d).session with
  | some v =>
    match v.stage with
    | .called | .boarding | .onDeck => (s.undo v.slot).vacate d
    | _ => s.vacate d
  | none => s.vacate d

/-- The latch becomes SET (R138 to R140): forced raises, sessions ended and their waiting calls dropped, the wake, the
notice. -/
def State.setLatch (s : State) : State :=
  let s1 := { s with emergency := { s.emergency with latch := true } }
  let s2 := s1.eachGate fun s g => s.gateEvent g fun x => x.forcedRaise s.now
  let s3 := s2.eachDeck fun s d => (s.abortSession d).dropCalls d
  (s3.wakeSource .emergency).raise .emergency .nothing

/-- A change of the qualified level of EMERG (R137). A level that is already there is no change (log 4). -/
def execEmergencyInputChange (active : Bool) (s : State) : Result :=
  event (fun s =>
    let s' := { s with emergency := { s.emergency with input := active } }
    if s.emergency.input = active then s
    else if active && !s.emergency.latch then s'.setLatch
    else s') s

/-- An accepted EMERGENCY_RELEASE (R141, R106, R118). -/
def State.releaseLatch (s : State) : State :=
  let s1 := { s with emergency := { s.emergency with latch := false } }
  let s2 := s1.eachGate fun s g => s.gateEvent g fun x => x.releaseLower s.now
  s2.eachDeck State.offer

/-- EMERGENCY_RELEASE (R141). -/
def execEmergencyRelease (s : State) : Result :=
  request Code.emergencyRelease (fun s =>
    if !s.emergency.latch then (s, .bare .wrongState)
    else if s.emergency.input then (s, .bare .wrongState)
    else (s.releaseLatch, .done (.latch s.releaseLatch.emergency.latch))) s

/-! ### Quiet running (R145) -/

/-- The conditions that refuse QUIET with BUSY (R145, steps 2 to 6). -/
def State.quietBusy (s : State) : Bool :=
  let gateBusy (g : GateId) : Bool := (s.gate g).waiting.isSome || (s.gate g).barrier != .down
  s.emergency.latch || (s.deck .d1).session.isSome || (s.deck .d2).session.isSome ||
    gateBusy .g1R || gateBusy .g1Y || gateBusy .g2R || gateBusy .g2Y || s.printing.job.isSome

/-- QUIET (R145). -/
def execQuiet (s : State) : Result :=
  request Code.quiet (fun s =>
    if s.service.quiet then (s, .bare .wrongState)
    else if s.quietBusy then (s, .bare .busy)
    else (State.eachDeck { s with service := { s.service with quiet := true, wake := none } } State.enterAsleep,
      .bare .done)) s

/-- WAKE (R147). -/
def execWake (s : State) : Result :=
  request Code.wake (fun s =>
    if s.service.quiet then (s.wakeYard .host, .bare .done) else (s, .bare .wrongState)) s

/-! ### Loops and readers -/

/-- A change of a gate's loop state (R98): the channel with the loop guard, the session, then the wake of quiet
running (R147). -/
def State.loopEvent (s : State) (g : GateId) (occupied : Bool) : State :=
  let s1 := s.gateEvent g fun x => x.loopChange s.now occupied
  let s2 := s1.sessionLoop g occupied
  if occupied && s2.service.loopWake then s2.wakeSource (.loop g) else s2

/-- LOOP_STATE_CHANGE (R98). A level that is already there is no change (log 4). -/
def execLoopStateChange (gate : GateId) (occupied : Bool) (s : State) : Result :=
  event (fun s => if (s.gate gate).occupied = occupied then s else s.loopEvent gate occupied) s

/-- A well-formed reader frame's tag (R109, R188, R189). -/
def tagFrameOf (f : List Byte) : Option Tag :=
  if f.length = 6 ∧ byteAt f 0 = 0x02 ∧ byteSum f = 0 then tagOf (fieldAt 32 f 1 4) else none

/-- An accepted read (R110, R147): a call to the deck's arbiter; in quiet running a wake source first, or dropped. -/
def State.acceptedRead (s : State) (g : GateId) (t : Tag) : State :=
  if s.service.quiet then
    if s.service.tagWake then ((s.wakeYard (.tag g)).arbitrateCall g (.tag t)).1 else s
  else (s.arbitrateCall g (.tag t)).1

/-- TAG_FRAME (R109, R110). -/
def execTagFrame (gate : GateId) (frame : List Byte) (s : State) : Result :=
  event (fun s =>
    match tagFrameOf frame with
    | none => s.setGate gate (s.gate gate).drop
    | some t =>
      let r := (s.gate gate).read s.now t
      let s' := s.setGate gate r.1
      if r.2 then s'.acceptedRead gate t else s') s

end Sys2Proof.Machine
end

