-- ==== Sys2Proof/Machine/Printers.lean ====
section
/-! DEFINITION. Printers: the commands of the chapter Ticket Printing (R151, R160 to R164) and the events of the print
bus (R150, R156, R157). -/

namespace Sys2Proof.Machine

open Sys2Proof

/-! ### Requests -/

/-- SET_PRINT (R151). -/
def execSetPrint (setup strobe hold completion : Byte) (s : State) : Result :=
  request Code.setPrint (fun s =>
    let t : PrintTimes := { setup := clamp 1 8 setup.toNat, strobe := clamp 1 16 strobe.toNat
                            hold := clamp 0 8 hold.toNat, completion := clamp 5 60 completion.toNat }
    (s.setPrinting { s.printing with times := t },
      { code := .done
        adjusted := clamped 1 8 setup.toNat || clamped 1 16 strobe.toNat || clamped 0 8 hold.toNat ||
          clamped 5 60 completion.toNat
        body := .printTimes t })) s

/-- The answer of a printer request: the printer's state and hold request after it (R160). -/
def State.printerReply (s : State) (p : PrinterId) (c : ReplyCode) : State × Reply :=
  (s, { code := c, body := .printer (s.printer p).state (s.printer p).hold })

/-- A printer with another state, its hold request no. -/
def State.setPrinterState (s : State) (p : PrinterId) (x : PrinterState) : State :=
  s.setPrinter p { s.printer p with state := x, hold := false }

/-- A printing printer with its hold request written. -/
def State.setHold (s : State) (p : PrinterId) (b : Bool) : State := s.setPrinter p { s.printer p with hold := b }

/-- A printer that returns to IN_SERVICE, with the arbiter's choice; the answer shows the printer after both (R154,
R160; log 13). -/
def State.returnPrinter (s : State) (p : PrinterId) : State × Reply :=
  let s' := (s.setPrinterState p .inService).serveBus
  s'.printerReply p .done

/-- HOLD_PRINTER (R160). -/
def execHoldPrinter (printer : Byte) (s : State) : Result :=
  request Code.holdPrinter (fun s =>
    match printerOf printer with
    | none => (s, .bare .outOfRange)
    | some p =>
      match (s.printer p).state with
      | .inService => (s.setPrinterState p .held).printerReply p .done
      | .printing => (s.setHold p true).printerReply p .done
      | .held => s.printerReply p .done
      | .outOfService => s.printerReply p .wrongState) s

/-- RELEASE_PRINTER (R160). -/
def execReleasePrinter (printer : Byte) (s : State) : Result :=
  request Code.releasePrinter (fun s =>
    match printerOf printer with
    | none => (s, .bare .outOfRange)
    | some p =>
      match (s.printer p).state with
      | .printing => if (s.printer p).hold then (s.setHold p false).printerReply p .done else s.printerReply p .wrongState
      | .held => s.returnPrinter p
      | _ => s.printerReply p .wrongState) s

/-- RESUME_PRINTER (R160). -/
def execResumePrinter (printer : Byte) (s : State) : Result :=
  request Code.resumePrinter (fun s =>
    match printerOf printer with
    | none => (s, .bare .outOfRange)
    | some p =>
      match (s.printer p).state with
      | .outOfService => s.returnPrinter p
      | _ => s.printerReply p .wrongState) s

/-- The ticket with a new target, and the mark that follows it (R161). -/
def Ticket.redirected (t : Ticket) (target : Option PrinterId) : Ticket :=
  { t with
    target := target
    mark := match t.mark, target with
      | _, none => .notRequired
      | .notRequired, some _ => .unprinted
      | m, some _ => m }

/-- REDIRECT (R55, R161). -/
def execRedirect (slot : Byte) (expected : Option Revision) (target : Byte) (s : State) : Result :=
  request Code.redirect (fun s => s.visitRequest slot expected fun n =>
    match s.visit n with
    | some v => match v.state with
      | .closed t =>
        match targetOf target with
        | none => s.refuseVisit n .outOfRange
        | some x =>
          if t.mark = .printing then s.refuseVisit n .busy
          else (s.writeSlot n (v.afterTicket (t.redirected x))).doneAndServe n
      | _ => s.refuseVisit n .wrongState
    | none => s.refuseVisit n .wrongState) s

/-- REPRINT (R55, R162). -/
def execReprint (slot : Byte) (expected : Option Revision) (s : State) : Result :=
  request Code.reprint (fun s => s.visitRequest slot expected fun n =>
    match s.visit n with
    | some v => match v.state with
      | .closed t =>
        if t.mark = .printing then s.refuseVisit n .busy
        else if t.collected then s.refuseVisit n .wrongState
        else if t.mark = .printed then
          (s.writeSlot n (some (v.withTicket { t with mark := .unprinted }))).doneAndServe n
        else s.refuseVisit n .wrongState
      | _ => s.refuseVisit n .wrongState
    | none => s.refuseVisit n .wrongState) s

/-- One printer of READ_PRINTERS (R164). -/
def State.printerImage (s : State) (p : PrinterId) : PrinterImage :=
  { printer := s.printer p, waiting := s.waitingCount p, oldest := (s.oldestWaiting p).map (·.2) }

/-- The job of READ_PRINTERS (R164; log 18). -/
def State.jobImage (s : State) (j : Job) : JobImage :=
  { printer := j.printer, slot := j.slot, ticket := j.ticket, copy := j.copy
    progress := match j.phase with
      | .completing due => .completing (s.secondsTo due)
      | _ => .sending j.sent }

/-- READ_PRINTERS' fields (R164). -/
def State.printersImage (s : State) : PrintersImage :=
  { p1 := s.printerImage .p1, p2 := s.printerImage .p2, lastServed := s.printing.lastServed
    job := s.printing.job.map s.jobImage, times := s.printing.times }

/-- READ_PRINTERS (R164). -/
def execReadPrinters (s : State) : Result :=
  query Code.readPrinters (fun s => .done (.printers s.printersImage)) s

/-! ### Events of the print bus

A level that is already there is no change (log 4). -/

/-- A timer of the job in progress lapses while its phase runs: `due` picks the phase (log 3, log 4). -/
def State.jobLapse (s : State) (due : JobPhase → Option Nat) (f : State → Job → State) : State :=
  match s.printing.job with
  | some j =>
    match due j.phase with
    | some t => f (s.reach t) j
    | none => s
  | none => s

/-- The setup time of a byte lapses: PSTB becomes active (R156). -/
def execSetupTimeLapse (s : State) : Result :=
  event (fun s => s.jobLapse (fun | .setup t => some t | _ => none) fun s j =>
    s.setJob (some { j with phase := .strobe (s.inMicros j.times.strobe) })) s

/-- The strobe time of a byte lapses: PSTB becomes inactive (R156). -/
def execStrobeTimeLapse (s : State) : Result :=
  event (fun s => s.jobLapse (fun | .strobe t => some t | _ => none) State.strobeEnd) s

/-- The hold time of a byte lapses (R156, R157). -/
def execHoldTimeLapse (s : State) : Result :=
  event (fun s => s.jobLapse (fun | .hold t => some t | _ => none) State.byteEnd) s

/-- BUSY stayed active for 2 s before a byte (R156). -/
def execBusyWaitLapse (s : State) : Result :=
  event (fun s => s.jobLapse (fun | .waitBusy t => some t | _ => none) fun s j => s.faultJob j .busyTimeout) s

/-- The completion limit lapses without DONE (R157). -/
def execCompletionLimitLapse (s : State) : Result :=
  event (fun s => s.jobLapse (fun | .completing t => some t | _ => none) fun s j => s.faultJob j .doneTimeout) s

/-- The input levels of one printer written (R150). -/
def State.setPins (s : State) (p : PrinterId) (x : PrinterPins) : State := s.setPrinter p { s.printer p with pins := x }

/-- PBUSY of a printer changes: becoming inactive ends the wait before a byte of its job (R150, R156). -/
def execPbusyChange (printer : PrinterId) (active : Bool) (s : State) : Result :=
  event (fun s =>
    let s' := s.setPins printer { (s.printer printer).pins with busy := active }
    if (s.printer printer).pins.busy = active then s
    else match s'.printing.job with
    | some j =>
      match j.phase with
      | .waitBusy _ =>
        if j.printer = printer ∧ active = false then
          s'.setJob (some { j with phase := .setup (s'.inMicros j.times.setup) })
        else s'
      | _ => s'
    | none => s') s

/-- PFLT of a printer changes: becoming active faults its job (R150, R156, R157). -/
def execPfltChange (printer : PrinterId) (active : Bool) (s : State) : Result :=
  event (fun s =>
    let s' := s.setPins printer { (s.printer printer).pins with fault := active }
    if (s.printer printer).pins.fault = active then s
    else match s'.printing.job with
    | some j => if j.printer = printer ∧ active then s'.faultJob j .faultLine else s'
    | none => s') s

/-- PDONE of a printer changes: rising in the completion wait of its job it is the job's DONE (R150, R157). -/
def execPdoneChange (printer : PrinterId) (active : Bool) (s : State) : Result :=
  event (fun s =>
    let s' := s.setPins printer { (s.printer printer).pins with done := active }
    if (s.printer printer).pins.done = active then s
    else match s'.printing.job with
    | some j =>
      match j.phase with
      | .completing _ => if j.printer = printer ∧ active then s'.finishJob j else s'
      | _ => s'
    | none => s') s

end Sys2Proof.Machine
end

