-- ==== Sys2Proof/Machine/Notices.lean ====
section
/-! DEFINITION. Notices: the commands of the chapter Notices (R168 to R172). -/

namespace Sys2Proof.Machine

open Sys2Proof

/-- The first pending line of a level, with its kind, by order number (R171). -/
def State.firstPending (s : State) (level : Level) : Option (NoticeKind × NoticeLine) :=
  (NoticeKind.all.zip s.notices).find? fun p => p.2.detail.isSome && p.2.level == level

/-- The first pending kind: URGENT before ROUTINE, by order number (R171). -/
def State.firstNotice (s : State) : Option (NoticeKind × NoticeLine) :=
  (s.firstPending .urgent).or (s.firstPending .routine)

/-- A kind leaves the pending set, its detail discarded (R169). -/
def State.dropNotice (s : State) (k : NoticeKind) : State :=
  { s with notices := s.notices.modify k.order fun l => { l with detail := none } }

/-- The number of pending kinds (R171, R172). -/
def State.pendingCount (s : State) : Nat := s.notices.countP fun l => l.detail.isSome

/-- TAKE_NOTICE (R171). -/
def execTakeNotice (s : State) : Result :=
  request Code.takeNotice (fun s =>
    match s.firstNotice with
    | some (k, l) =>
      (s.dropNotice k, .done (.notice (l.detail.map fun d => (k, l.level, d)) (s.dropNotice k).pendingCount))
    | none => (s, .done (.notice none 0))) s

/-- DROP_NOTICES (R172). -/
def execDropNotices (s : State) : Result :=
  request Code.dropNotices (fun s =>
    ({ s with notices := s.notices.map fun l => { l with detail := none } }, .done (.dropped s.pendingCount))) s

/-- A notice line under SET_NOTICE: a disabled kind leaves the pending set (R168). -/
def NoticeLine.set (l : NoticeLine) (enable : Bool) (level : Level) : NoticeLine :=
  { enable := enable, level := level, detail := if enable then l.detail else none }

/-- SET_NOTICE (R168). -/
def execSetNotice (kind enable level : Byte) (s : State) : Result :=
  request Code.setNotice (fun s =>
    match noticeKindOf kind, flagOf enable, levelOf level with
    | some k, some e, some l =>
      ({ s with notices := s.notices.modify k.order fun x => x.set e l }, .done (.noticeSetting e l))
    | _, _, _ => (s, .bare .outOfRange)) s

/-- READ_NOTICES (R172). -/
def execReadNotices (s : State) : Result :=
  query Code.readNotices (fun s => .done (.notices s.notices s.attn s.alert)) s

end Sys2Proof.Machine
end

