-- ==== Sys2Proof/Machine/Service.lean ====
section
/-! DEFINITION. Service: the commands of the Link Port and the Service Unit, the yard clock, the resets and the main
supply (R174 to R183). -/

namespace Sys2Proof.Machine

open Sys2Proof

/-! ### The Link Port (R174 to R177) -/

/-- A frame that cannot be read is answered MALFORMED (R177). -/
def malformed (kind : Byte) (s : State) : Result := query kind (fun _ => .bare .malformed) s

/-- MALFORMED_FRAME (R177). -/
def execMalformedFrame (kind : Byte) (s : State) : Result := malformed kind s

/-- CUT_SHORT_FRAME: the kind byte received is echoed, or 0 when the selection ended before it (R177). -/
def execCutShortFrame (kind : Option Byte) (s : State) : Result := malformed (kind.getD 0) s

/-- OVERRUN: a frame that completes with an answer unread sets its overrun mark (R176). With the buffer empty no frame
overruns (log 4). -/
def execOverrun (s : State) : Result :=
  selection (fun s => { s with link := s.link.map fun a => { a with overrun := true } }) s

/-- ANSWER_READ: a read selection has clocked out the answer's last byte, and the buffer becomes empty (R174, R175). -/
def execAnswerRead (s : State) : Result := selection (fun s => { s with link := none }) s

/-! ### STATUS, the clock and the site settings (R178 to R180) -/

/-- STATUS' fields (R178). -/
def State.statusImage (s : State) : StatusImage :=
  { identity := Config.partIdentity, silicon := Config.siliconRevision, cause := s.service.cause
    intact := s.service.intact, quiet := s.service.quiet, wake := s.service.wake, latch := s.emergency.latch
    emergencyInput := s.emergency.input, deck1 := (s.deck .d1).unit.reading.availability
    deck2 := (s.deck .d2).unit.reading.availability, nextTicket := s.register.nextTicket, freeCount := s.freeCount
    clock := s.service.clock, clockSet := s.service.clockSet }

/-- STATUS (R178). -/
def execStatus (s : State) : Result := query Code.status (fun s => .done (.status s.statusImage)) s

/-- The Service Unit replaced. -/
def State.setService (s : State) (v : Service) : State := { s with service := v }

/-- SET_CLOCK: the value, the flag, a new second from the request, and the over-stay check (R63, R179). -/
def execSetClock (seconds : Seconds) (s : State) : Result :=
  request Code.setClock (fun s =>
    ((s.setService { s.service with clock := seconds, clockSet := true, secondDue := s.inSeconds 1 }).checkStays,
      .bare .done)) s

/-- SET_SITE (R63, R180). -/
def execSetSite (maxStay tagWake loopWake : Byte) (s : State) : Result :=
  request Code.setSite (fun s =>
    let m := clamp 1 48 maxStay.toNat
    match flagOf tagWake, flagOf loopWake with
    | some t, some l =>
      ((s.setService { s.service with maxStay := m, tagWake := t, loopWake := l }).checkStays,
        { code := .done, adjusted := clamped 1 48 maxStay.toNat, body := .site m t l })
    | _, _ => (s, .bare .outOfRange)) s

/-- The clock advanced by one second of the part's own time base, with wrap (R179). -/
def State.tickClock (s : State) : State :=
  let s' := s.reach s.service.secondDue
  s'.setService { s'.service with clock := s'.service.clock + 1, secondDue := s'.service.secondDue + 1000000 }

/-- YARD_CLOCK_ADVANCE (R63, R179). With the main supply off the clock runs while the backup supply holds, and the
register, which is not running, makes no check (log 23). -/
def execYardClockAdvance (s : State) : Result :=
  .next (if s.powered then s.tickClock.checkStays else if s.service.mark then s.tickClock else s)

/-! ### Resets (R181, R182) -/

/-- A deck after a reset at `now` (R18, R19, R24, R112): warming when its record is present, else UNCALIBRATED. The
retained record, counter, Z_set and timer settings are kept. -/
def Deck.reset (k : Deck) (now : Nat) : Deck :=
  match k.cal.record with
  | some _ =>
    { cal := k.cal, cells := CellLink.reset now
      unit := Weigher.reset .warming k.cal.zSet (some (now + 2000000))
      session := none, times := k.times }
  | none =>
    { cal := k.cal, cells := CellLink.reset now
      unit := Weigher.reset .uncalibrated 0 none
      session := none, times := k.times }

/-- The Print Controller after a reset with the levels sampled (R150 to R152, R165). -/
def Printing.reset (c : Printing) (pins : PerPrinter PrinterPins) : Printing :=
  { printers := { p1 := Printer.reset pins.p1, p2 := Printer.reset pins.p2 }, lastServed := .p2, times := c.times
    job := none }

/-- The Service Unit after a reset (R144, R179 to R182). -/
def Service.reset (v : Service) (cause : ResetCause) (lost : Bool) : Service :=
  { v with mark := true, intact := !lost, cause := cause, quiet := false, wake := none }

/-- The retained records at their initial contents (R182, "What each reset leaves"). -/
def State.loseRetained (s : State) : State :=
  { s with
    decks := { d1 := Deck.initial, d2 := Deck.initial }
    gates := { g1R := s.gates.g1R.defaultTimes, g1Y := s.gates.g1Y.defaultTimes, g2R := s.gates.g2R.defaultTimes
               g2Y := s.gates.g2Y.defaultTimes }
    register := Register.initial
    vehicles := []
    accounts := []
    kinds := List.replicate 32 Kind.initial
    printing := { s.printing with times := PrintTimes.default }
    service := { s.service with clock := 0, clockSet := false, secondDue := s.inSeconds 1, maxStay := 4, tagWake := true
                                loopWake := true } }

/-- Every block's reset values, before the emergency input is sampled and before the print arbiter chooses (R24, R53,
R66, R108, R136, R152, R173, R175). -/
def State.resetBlocks (s : State) (cause : ResetCause) (lost : Bool) (pins : Pins) : State :=
  let s1 := s.resetRegister
  { s1 with
    powered := true
    link := none
    port := { received := [], ncs := pins.ncs }
    decks := { d1 := s1.decks.d1.reset s1.now, d2 := s1.decks.d2.reset s1.now }
    gates := { g1R := s1.gates.g1R.reset s1.now pins.gates.g1R, g1Y := s1.gates.g1Y.reset s1.now pins.gates.g1Y
               g2R := s1.gates.g2R.reset s1.now pins.gates.g2R, g2Y := s1.gates.g2Y.reset s1.now pins.gates.g2Y }
    printing := s1.printing.reset pins.printers
    notices := noticesAtReset cause lost
    emergency := { latch := false, input := pins.emergency }
    service := s1.service.reset cause lost }

/-- A reset (R181): the blocks, the arbiter's choice (R165), then the sample of EMERG, whose ACTIVE level sets the latch
(R143). -/
def State.performReset (s : State) (cause : ResetCause) (lost : Bool) (pins : Pins) : State :=
  let s1 := (s.resetBlocks cause lost pins).serveBus
  if pins.emergency then s1.setLatch else s1

/-- RESTART: a link reset, with no answer; with an unread answer it is not performed (R176, R181). -/
def execRestart (pins : Pins) (s : State) : Result :=
  selection (fun s =>
    match s.link with
    | some a => { s with link := some { a with overrun := true } }
    | none => s.performReset .linkReset false pins) s

/-- PIN_RESET: the whole of a pin reset, taken at its end (R181; log 32). With the main supply off it has no effect. -/
def execPinReset (pins : Pins) (s : State) : Result := event (fun s => s.performReset .pinReset false pins) s

/-- POWER_ON: the retention mark is examined, the retained records are kept or take their initial contents, and every
block takes its reset values (R181, R182). One that is taken with the main supply already up is performed just the same: the
spec rules it out and the model's choice stands in log 34. -/
def execPowerOn (pins : Pins) (s : State) : Result :=
  .next (if s.service.mark then s.performReset .powerOn false pins else s.loseRetained.performReset .powerOn true pins)

/-! ### The main supply (R182; log 5) -/

/-- A gate channel without supply: at rest in no known position, its timing settings retained. -/
def Gate.dark (g : Gate) : Gate :=
  { Gate.initial with barrier := .fault, downSwitch := false, warnTime := g.warnTime, driveLimit := g.driveLimit
                      settleTime := g.settleTime }

/-- A deck without supply: what is retained, and the rest at rest. -/
def Deck.dark (k : Deck) : Deck :=
  { Deck.initial with cal := k.cal, times := k.times }

/-- MAIN_SUPPLY_LOSS (R182): every operation stops, volatile state is gone, retained state stays; the retention mark is
lost when the backup supply falls below its hold level. -/
def execMainSupplyLoss (backupFails : Bool) (s : State) : Result :=
  .next
    { s with
      powered := false
      link := none
      port := LinkPort.rest
      decks := { d1 := s.decks.d1.dark, d2 := s.decks.d2.dark }
      gates := { g1R := s.gates.g1R.dark, g1Y := s.gates.g1Y.dark, g2R := s.gates.g2R.dark, g2Y := s.gates.g2Y.dark }
      register := { s.register with cursor := Cursor.reset }
      printing := { Printing.initial with times := s.printing.times }
      notices := NoticeKind.all.map fun k => { enable := true, level := k.defaultLevel, detail := none }
      emergency := { latch := false, input := false }
      service := { s.service with mark := s.service.mark && !backupFails, intact := false, cause := .powerOn
                                  quiet := false, wake := none } }

/-! ### CLEAR_TABLES (R183) -/

/-- Every waiting call of the yard dropped with CALL_REFUSED, deck 1 then deck 2 (R117; log 14). -/
def State.refuseAllWaiting (s : State) : State := s.eachDeck State.refuseWaiting

/-- An accepted CLEAR_TABLES (R22, R28, R66, R89, R117, R183). -/
def State.clearTables (s : State) : State :=
  State.refuseAllWaiting
    { s with
      decks := { d1 := s.decks.d1.cleared, d2 := s.decks.d2.cleared }
      register := { slots := s.register.slots.map fun sl => sl.write none, nextTicket := 1, cursor := Cursor.reset }
      vehicles := []
      accounts := []
      kinds := List.replicate 32 Kind.initial
      service := { s.service with mark := true } }

/-- CLEAR_TABLES (R183). -/
def execClearTables (closed : Bool) (s : State) : Result :=
  request Code.clearTables (fun s =>
    if !closed then (s, .bare .guarded)
    else if (s.deck .d1).session.isSome || (s.deck .d2).session.isSome then (s, .bare .busy)
    else (s.clearTables, .bare .done)) s

end Sys2Proof.Machine
end

