-- ==== Sys2Proof/Machine/Dispatch.lean ====
section
/-! DEFINITION. Dispatch: the meaning of each command, one arm a constructor. -/

namespace Sys2Proof.Machine

open Sys2Proof

/-- The effect of a command on everything but the queue. -/
def exec (i : Instr) (s : State) : Host.Outcome State Fault Refusal :=
  match i with
  | .readDeck deck => Sys2Proof.Machine.execReadDeck deck s
  | .retryCell deck cell => Sys2Proof.Machine.execRetryCell deck cell s
  | .calPut closed body => Sys2Proof.Machine.execCalPut closed body s
  | .calGet closed deck part => Sys2Proof.Machine.execCalGet closed deck part s
  | .zero deck => Sys2Proof.Machine.execZero deck s
  | .find mode key => Sys2Proof.Machine.execFind mode key s
  | .seek slot step filter => Sys2Proof.Machine.execSeek slot step filter s
  | .walk => Sys2Proof.Machine.execWalk s
  | .amend slot expected kind plate account => Sys2Proof.Machine.execAmend slot expected kind plate account s
  | .cancelVisit slot expected => Sys2Proof.Machine.execCancelVisit slot expected s
  | .resolveClose slot expected action target net => Sys2Proof.Machine.execResolveClose slot expected action target net s
  | .resolveDiscard slot expected => Sys2Proof.Machine.execResolveDiscard slot expected s
  | .collect slot expected => Sys2Proof.Machine.execCollect slot expected s
  | .setTicketNext number => Sys2Proof.Machine.execSetTicketNext number s
  | .putVehicle body => Sys2Proof.Machine.execPutVehicle body s
  | .getVehicle mode key => Sys2Proof.Machine.execGetVehicle mode key s
  | .dropVehicle tag => Sys2Proof.Machine.execDropVehicle tag s
  | .setTareFromDeck tag deck => Sys2Proof.Machine.execSetTareFromDeck tag deck s
  | .putAccount number opening floor limit => Sys2Proof.Machine.execPutAccount number opening floor limit s
  | .getAccount number => Sys2Proof.Machine.execGetAccount number s
  | .credit number amount => Sys2Proof.Machine.execCredit number amount s
  | .stop number => Sys2Proof.Machine.execStop number s
  | .release number => Sys2Proof.Machine.execRelease number s
  | .dropAccount number => Sys2Proof.Machine.execDropAccount number s
  | .putKind code accepted directions rate minimum => Sys2Proof.Machine.execPutKind code accepted directions rate minimum s
  | .getKind code => Sys2Proof.Machine.execGetKind code s
  | .setGate gate warn drive settle => Sys2Proof.Machine.execSetGate gate warn drive settle s
  | .raise gate => Sys2Proof.Machine.execRaise gate s
  | .lower gate => Sys2Proof.Machine.execLower gate s
  | .resetGate gate => Sys2Proof.Machine.execResetGate gate s
  | .lock gate => Sys2Proof.Machine.execLock gate s
  | .unlock gate => Sys2Proof.Machine.execUnlock gate s
  | .readGate gate clear => Sys2Proof.Machine.execReadGate gate clear s
  | .call gate form key account kind direction => Sys2Proof.Machine.execCall gate form key account kind direction s
  | .manualCapture deck weight => Sys2Proof.Machine.execManualCapture deck weight s
  | .cancelSession deck => Sys2Proof.Machine.execCancelSession deck s
  | .setDeckTimers deck board capture wait => Sys2Proof.Machine.execSetDeckTimers deck board capture wait s
  | .readSession deck => Sys2Proof.Machine.execReadSession deck s
  | .emergencyRelease => Sys2Proof.Machine.execEmergencyRelease s
  | .quiet => Sys2Proof.Machine.execQuiet s
  | .wake => Sys2Proof.Machine.execWake s
  | .setPrint setup strobe hold completion => Sys2Proof.Machine.execSetPrint setup strobe hold completion s
  | .holdPrinter printer => Sys2Proof.Machine.execHoldPrinter printer s
  | .releasePrinter printer => Sys2Proof.Machine.execReleasePrinter printer s
  | .resumePrinter printer => Sys2Proof.Machine.execResumePrinter printer s
  | .redirect slot expected target => Sys2Proof.Machine.execRedirect slot expected target s
  | .reprint slot expected => Sys2Proof.Machine.execReprint slot expected s
  | .readPrinters => Sys2Proof.Machine.execReadPrinters s
  | .takeNotice => Sys2Proof.Machine.execTakeNotice s
  | .dropNotices => Sys2Proof.Machine.execDropNotices s
  | .setNotice kind enable level => Sys2Proof.Machine.execSetNotice kind enable level s
  | .readNotices => Sys2Proof.Machine.execReadNotices s
  | .status => Sys2Proof.Machine.execStatus s
  | .setClock seconds => Sys2Proof.Machine.execSetClock seconds s
  | .setSite maxStay tagWake loopWake => Sys2Proof.Machine.execSetSite maxStay tagWake loopWake s
  | .restart pins => Sys2Proof.Machine.execRestart pins s
  | .clearTables closed => Sys2Proof.Machine.execClearTables closed s
  | .malformedFrame kind => Sys2Proof.Machine.execMalformedFrame kind s
  | .cutShortFrame kind => Sys2Proof.Machine.execCutShortFrame kind s
  | .overrun => Sys2Proof.Machine.execOverrun s
  | .answerRead => Sys2Proof.Machine.execAnswerRead s
  | .powerOn pins => Sys2Proof.Machine.execPowerOn pins s
  | .pinReset pins => Sys2Proof.Machine.execPinReset pins s
  | .cycleSlot deck => Sys2Proof.Machine.execCycleSlot deck s
  | .cellAnswer deck frame => Sys2Proof.Machine.execCellAnswer deck frame s
  | .answerWindowLapse deck => Sys2Proof.Machine.execAnswerWindowLapse deck s
  | .warmUpLapse deck => Sys2Proof.Machine.execWarmUpLapse deck s
  | .loopStateChange gate occupied => Sys2Proof.Machine.execLoopStateChange gate occupied s
  | .limitSwitchChange gate switch active => Sys2Proof.Machine.execLimitSwitchChange gate switch active s
  | .warnTimeLapse gate => Sys2Proof.Machine.execWarnTimeLapse gate s
  | .driveLimitLapse gate => Sys2Proof.Machine.execDriveLimitLapse gate s
  | .settleTimeLapse gate => Sys2Proof.Machine.execSettleTimeLapse gate s
  | .tagFrame gate frame => Sys2Proof.Machine.execTagFrame gate frame s
  | .callWaitLapse gate => Sys2Proof.Machine.execCallWaitLapse gate s
  | .boardTimerLapse deck => Sys2Proof.Machine.execBoardTimerLapse deck s
  | .captureTimerLapse deck => Sys2Proof.Machine.execCaptureTimerLapse deck s
  | .yardClockAdvance => Sys2Proof.Machine.execYardClockAdvance s
  | .emergencyInputChange active => Sys2Proof.Machine.execEmergencyInputChange active s
  | .setupTimeLapse => Sys2Proof.Machine.execSetupTimeLapse s
  | .strobeTimeLapse => Sys2Proof.Machine.execStrobeTimeLapse s
  | .holdTimeLapse => Sys2Proof.Machine.execHoldTimeLapse s
  | .pbusyChange printer active => Sys2Proof.Machine.execPbusyChange printer active s
  | .busyWaitLapse => Sys2Proof.Machine.execBusyWaitLapse s
  | .pfltChange printer active => Sys2Proof.Machine.execPfltChange printer active s
  | .pdoneChange printer active => Sys2Proof.Machine.execPdoneChange printer active s
  | .completionLimitLapse => Sys2Proof.Machine.execCompletionLimitLapse s
  | .mainSupplyLoss backupFails => Sys2Proof.Machine.execMainSupplyLoss backupFails s

end Sys2Proof.Machine
end

