-- ==== Sys2Proof/Machine/Step.lean ====
section
/-! DEFINITION. Step: the command at the front of the queue, or the idle tick of an empty queue (log 2). -/

namespace Sys2Proof.Machine

open Sys2Proof

/-- One millisecond of the part's own time base passes with no command waiting (log 2). -/
def State.idle (s : State) : State := { s with now := s.now + 1000 }

/-- One step: the front command is performed on the state with the queue's rest; an empty queue idles. -/
def step (s : State) : Host.Outcome State Fault Refusal :=
  match s.pending with
  | [] => .next s.idle
  | c :: rest => exec c { s with pending := rest }

/-- The state with a command put at the front of its queue. -/
def State.enqueueFront (s : State) (c : Instr) : State := { s with pending := c :: s.pending }

/-- The state with the command that a table word spells at the front of its queue; no row of the table gives bits, so
no word spells one and the state is unchanged (log 2). -/
def State.withFetchWord (s : State) (nbits w : Nat) : State :=
  match decodeTableWord nbits w with
  | some c => s.enqueueFront c
  | none => s

end Sys2Proof.Machine
end

