-- ==== Sys2Proof/Machine/Images.lean ====
section
/-! DEFINITION. Images: the bytes of the unread answer as a read selection clocks them out, and of the cell link's
frames (R174, R184, R185, R187, R188). The bytes of a body that the last chapter does not lay out are free (log 19). -/

namespace Sys2Proof.Machine

open Sys2Proof

/-- Outcome codes (R184). -/
def ReplyCode.byte : ReplyCode → Nat
  | .done => 0 | .busy => 1 | .notFound => 2 | .conflict => 3 | .stale => 4 | .wrongState => 5 | .full => 6
  | .guarded => 7 | .outOfRange => 8 | .refused => 9 | .deckUnavailable => 10 | .malformed => 11

/-- Visit state codes (R184). -/
def VisitName.code : VisitName → Nat
  | .free => 0 | .arriving => 1 | .onSite => 2 | .departing => 3 | .held => 4 | .closed => 5

/-- Gate codes (R184). -/
def gateCode : GateId → Nat
  | .g1R => 1 | .g1Y => 2 | .g2R => 3 | .g2Y => 4

/-- Call refusal reason codes (R184). -/
def CallReason.code : CallReason → Nat
  | .deckUnavailable => 1 | .unknownTag => 2 | .vehicleBarred => 3 | .alreadyOnSite => 4 | .kindClosed => 5
  | .accountStopped => 6 | .accountLimit => 7 | .yardFull => 8 | .visitBusy => 9 | .noVisit => 10

/-- Level codes (R184). -/
def Level.code : Level → Nat
  | .urgent => 1 | .routine => 2

/-- Availability codes (R187). -/
def Availability.code : Availability → Nat
  | .uncalibrated => 1 | .asleep => 2 | .warming => 3 | .ready => 4 | .fault => 5

/-- Reading status codes (R187). -/
def ReadStatus.code : ReadStatus → Nat
  | .noStatus => 0 | .valid => 1 | .partialCycle => 2 | .over => 3 | .under => 4

/-- Waste kind direction codes (R184). -/
def KindDirections.code : KindDirections → Nat
  | .deliver => 1 | .collect => 2 | .both => 3

/-- Reset cause codes (R187). -/
def ResetCause.code : ResetCause → Nat
  | .powerOn => 1 | .pinReset => 2 | .linkReset => 3

/-- Print mark codes (R187). -/
def PrintMark.code : PrintMark → Nat
  | .unprinted => 0 | .printing => 1 | .printed => 2 | .notRequired => 3

/-- Print target codes (R184). -/
def targetCode : Option PrinterId → Nat
  | none => 0
  | some p => printerCode p

/-! ### Record images (R187) -/

/-- The first weighing of a visit, where present (R42). -/
def VisitState.first : VisitState → Option Weighing
  | .arriving _ => none
  | .onSite w => some w
  | .departing _ w => some w
  | .held w _ _ _ => some w
  | .closed t => some t.first

/-- The second weighing of a visit, where present (R42). -/
def VisitState.second : VisitState → Option Weighing
  | .held _ w _ _ => some w
  | .closed t => some t.second
  | _ => none

/-- The net of a visit, 0 where absent (R42, R184). -/
def VisitState.net : VisitState → Int
  | .held _ _ n _ => n
  | .closed t => t.net
  | _ => 0

/-- The held reason bits (R187). -/
def VisitState.reasonBits : VisitState → Nat
  | .held _ _ _ .negativeNet => 1
  | .held _ _ _ .lowNet => 2
  | _ => 0

/-- The presence, deck and origin bits of a weighing: presence bit, deck bit, and origin in two bits (R187). -/
def weighingBits (w : Option Weighing) (present deck origin : Nat) : Nat :=
  match w with
  | none => 0
  | some w => 2 ^ present + (deckCode w.deck - 1) * 2 ^ deck + originCode w.origin * 2 ^ origin

/-- Weight and time of a weighing, 0 where absent (R184, R187). -/
def weighingBytes (w : Option Weighing) : List Byte :=
  match w with
  | none => bytesOfNat 8 0
  | some w => bytesOfInt 4 w.weight ++ bytesOfNat 4 w.time.toNat

/-- The last 13 bytes of the visit image: ticket number, close time, charge, and the print byte (CLOSED) (R187). -/
def ticketBytes (t : Option Ticket) : List Byte :=
  match t with
  | none => bytesOfNat 13 0
  | some t => bytesOfNat 4 t.number ++ bytesOfNat 4 t.closeTime.toNat ++ bytesOfNat 4 t.charge ++
      bytesOfNat 1 (targetCode t.target + 4 * t.mark.code + 16 * t.attempts)

/-- Bytes 3 and 4 of the visit image (R187). -/
def Visit.flagBytes (v : Visit) : List Byte :=
  bytesOfNat 1 (v.state.name.code + 8 * (directionCode v.direction - 1) + 16 * bit v.onePass + 32 * bit v.overStay +
    64 * bit (v.ticket.any (·.adjusted)) + 128 * bit (v.ticket.any (·.collected))) ++
  bytesOfNat 1 (bit v.tag.isSome + 2 * bit v.account.isSome +
    4 * (match v.sessionDeck with
      | none => 0
      | some d => deckCode d) + 16 * v.state.reasonBits)

/-- The visit image: 60 bytes, or the first four of a FREE slot (R187). -/
def visitImage (n : Snapshot) : List Byte :=
  bytesOfNat 1 n.number ++ bytesOfNat 2 n.slot.revision.toNat ++
  match n.slot.visit with
  | none => bytesOfNat 1 0
  | some v =>
    v.flagBytes ++ plateBytes v.plate ++ bytesOfNat 1 v.kind ++ bytesOfNat 4 v.opened.toNat ++
      bytesOfNat 4 (v.tag.getD 0).toNat ++ bytesOfNat 2 (v.account.getD 0).toNat ++
      bytesOfNat 1 (weighingBits v.state.first 0 2 3 + weighingBits v.state.second 1 5 6) ++
      weighingBytes v.state.first ++ weighingBytes v.state.second ++ bytesOfInt 4 v.state.net ++ ticketBytes v.ticket

/-- The vehicle image, 33 bytes (R187). -/
def vehicleImage (v : Vehicle) (valid : Bool) (today : Nat) : List Byte :=
  bytesOfNat 4 v.tag.toNat ++ plateBytes v.plate ++ bytesOfNat 2 v.account.toNat ++ bytesOfNat 1 v.kind ++
    bytesOfNat 1 (directionCode v.direction) ++ bytesOfNat 1 (bit v.barred + 1) ++ bytesOfNat 1 (bit v.autoTare) ++
    bytesOfNat 2 v.validity ++ bytesOfNat 1 (bit v.tare.isSome) ++
    (match v.tare with
      | some t => bytesOfNat 4 t.weight ++ bytesOfNat 2 t.day ++ bytesOfNat 1 (deckCode t.deck)
      | none => bytesOfNat 7 0) ++
    bytesOfNat 1 (bit valid) ++ bytesOfNat 2 today

/-- State, stop-cause presence and stop cause of an account (R187). -/
def AccountState.bytes : AccountState → List Byte
  | .active => [1, 0, 0]
  | .stoppedAuto => [2, 1, 1]
  | .stoppedHold => [2, 1, 2]

/-- The account image, 15 bytes (R187). -/
def accountImage (a : Account) : List Byte :=
  bytesOfNat 2 a.number.toNat ++ a.state.bytes ++ bytesOfInt 4 a.balance ++ bytesOfInt 4 a.floor ++
    bytesOfNat 1 a.limit ++ bytesOfNat 1 a.count

/-- The kind image, 11 bytes (R187). -/
def kindImage (code : Nat) (k : Kind) : List Byte :=
  bytesOfNat 1 code ++ bytesOfNat 1 (bit k.accepted) ++ bytesOfNat 1 k.directions.code ++ bytesOfNat 4 k.rate ++
    bytesOfNat 4 k.minimum

/-- The two detail bytes of a notice (R187). -/
def Detail.bytes : Detail → List Byte
  | .nothing => [0, 0]
  | .cell d i => bytesOfNat 1 (deckCode d) ++ bytesOfNat 1 i
  | .gate g => bytesOfNat 1 (gateCode g) ++ [0]
  | .printer p => bytesOfNat 1 (printerCode p) ++ [0]
  | .deck d => bytesOfNat 1 (deckCode d) ++ [0]
  | .refusal g r => bytesOfNat 1 (gateCode g) ++ bytesOfNat 1 r.code
  | .slot n => bytesOfNat 1 n ++ [0]
  | .account n => bytesOfNat 2 n.toNat
  | .freeCount n => bytesOfNat 1 n ++ [0]
  | .wake (.tag g) => [1] ++ bytesOfNat 1 (gateCode g)
  | .wake (.loop g) => [2] ++ bytesOfNat 1 (gateCode g)
  | .wake .emergency => [3, 0]
  | .wake .host => [4, 0]
  | .reset c => bytesOfNat 1 c.code ++ [0]

/-- The notice answer, 6 bytes (R187). -/
def noticeImage (n : Option (NoticeKind × Level × Detail)) (remaining : Nat) : List Byte :=
  match n with
  | none => [0, 0, 0, 0, 0] ++ bytesOfNat 1 remaining
  | some (k, l, d) => [1] ++ bytesOfNat 1 k.order ++ bytesOfNat 1 l.code ++ d.bytes ++ bytesOfNat 1 remaining

/-- The deck image, 29 bytes (R187). -/
def DeckImage.bytes (i : DeckImage) : List Byte :=
  bytesOfNat 1 i.reading.availability.code ++ bytesOfNat 1 i.reading.status.code ++
    bytesOfNat 1 (bit i.reading.current + 2 * bit i.stable + 4 * bit (i.rate == .full)) ++
    bytesOfNat 1 i.reading.still ++ bytesOfNat 1 i.reading.track ++ bytesOfInt 4 i.reading.net ++
    bytesOfInt 4 i.reading.weight ++ bytesOfNat 4 i.reading.lastComplete.toNat ++ bytesOfInt 4 i.zd ++
    (i.cells.map fun c => bytesOfNat 1 (bit c.enabled + 2 * bit c.failed + 4 * c.misses)).flatten

/-- The limits field of the calibration layout: Max in the upper 18 bits, the threshold in the lower 18 (R186). -/
def CalRecord.limits (r : CalRecord) : Nat := r.max * 2 ^ 18 + r.threshold

/-- Bytes 0 … 11 of the calibration layout, 0 with the record absent (R186). -/
def calHead (d : DeckId) (r : Option CalRecord) : List Byte :=
  match r with
  | none => bytesOfNat 12 0
  | some r =>
    bytesOfNat 1 (128 * (deckCode d - 1) + r.division) ++ [r.cells] ++ bytesOfNat 1 r.stableCount ++
      bytesOfNat 1 (16 * r.motionBand + r.limits / 2 ^ 32) ++ bytesOfInt 4 r.zCal ++ bytesOfNat 4 (r.limits % 2 ^ 32)

/-- Bytes 12 … 59 of the calibration layout, 0 with the record absent (R186). -/
def calTail (r : Option CalRecord) : List Byte :=
  match r with
  | none => bytesOfNat 48 0
  | some r => ((List.range 8).map fun i => bytesOfInt 3 (r.zeros.getD i 0) ++ bytesOfNat 3 (r.spans.getD i 0)).flatten

/-- The bytes of an answer's body. A body of one field has that field's encoding (R184), and the images stand as R186 and R187
lay them out; the bytes of any other body are free, at most 60 of them (R185; log 19). -/
def Body.bytes : Body → List Byte
  | .empty => []
  | .deck i => i.bytes
  | .calPart0 d r closed changes z =>
    bytesOfNat 1 (bit r.isSome) ++ bytesOfNat 1 (bit closed) ++ bytesOfNat 2 changes ++ bytesOfInt 4 z ++
      calHead d r ++ bytesOfNat 4 (r.elim 0 fun x => x.changeTime.toNat)
  | .calPart1 r => bytesOfNat 1 (bit r.isSome) ++ calTail r
  | .visit n => visitImage n
  | .walkEnd => [0xFF]
  | .seekSlot n => bytesOfNat 1 n
  | .revision r => bytesOfNat 2 r.toNat
  | .reason r => bytesOfNat 1 r.code
  | .dropped n => bytesOfNat 1 n
  | .vehicle e valid today => vehicleImage e valid today
  | .account a => accountImage a
  | .kind c k => kindImage c k
  | .notice n remaining => noticeImage n remaining
  | b => (Config.unlaidBody Body b).take 60

/-- Bytes 0 … 4 of the answer frame, which every answer has: sync, echoed kind, outcome, adjusted mark, overrun mark
(R185). -/
def Answer.header (a : Answer) : List Byte :=
  [0xA5, a.kind] ++ bytesOfNat 1 a.code.byte ++ bytesOfNat 1 (bit a.adjusted) ++ bytesOfNat 1 (bit a.overrun)

/-- The answer frame: the header, the body's length, the body (R185). -/
def Answer.frame (a : Answer) : List Byte := a.header ++ bytesOfNat 1 a.body.bytes.length ++ a.body.bytes

/-- The filler byte (R185). -/
def filler : Byte := 0x00

/-- The first `n` bytes that a read selection clocks out on SDO: the answer's bytes in frame order, then filler bytes;
filler throughout with the buffer empty (R174). -/
def State.readSelection (s : State) (n : Nat) : List Byte :=
  match s.link with
  | none => List.replicate n filler
  | some a => (a.frame ++ List.replicate n filler).take n

/-! ### Frames of the cell link (R188, R189) -/

/-- The LATCH frame (R188). -/
def latchFrame : List Byte := [0xA1, checkByte [0xA1]]

/-- The READ frame of a cell (R188). -/
def readFrame (cell : Nat) : List Byte :=
  [0xA2] ++ bytesOfNat 1 cell ++ [checkByte ([0xA2] ++ bytesOfNat 1 cell)]

end Sys2Proof.Machine
end

