-- ==== Sys2Proof/Machine/LinkPort.lean ====
section
/-! DEFINITION. LinkPort: the Link Port byte by byte (R174, R177): which command a byte clocked on SDI or a deselection
hands over, what it leaves in the request buffer, and the byte that goes out on SDO. The commands of the queue are these
commands, each at its completion (log 7). -/

namespace Sys2Proof.Machine

open Sys2Proof

/-- The bytes received are a request frame that is complete: the last body byte has arrived, or the length byte of a body
of length 0 (R174). A body length above 60 is answered at the deselection (R177). -/
def frameComplete (sdi : List Byte) : Bool :=
  match sdi with
  | first :: _ :: len :: body => first == 0xA5 && decide (len.toNat ≤ 60) && body.length == len.toNat
  | _ => false

/-- The bytes received stand in a read selection: the first is not the sync byte (R174). -/
def readsAnswer (sdi : List Byte) : Bool :=
  match sdi with
  | first :: _ => first != 0xA5
  | [] => false

/-- The command handed over when the last of these bytes of a selection has been clocked: the frame that completes, or the
reading of the answer whose last byte this is (R174, R177). A RESTART that a byte completes finds NCS active, in the
selection whose frame it is (R174). That the answer's first byte goes out with the byte that classifies the selection, so
that as many bytes read it as its frame has, is the model's choice (log 36). -/
def State.byteCommand (s : State) (closed : Bool) (pins : Pins) (sdi : List Byte) : Option Instr :=
  if frameComplete sdi then commandOf closed { pins with ncs := .finished } sdi
  else match s.link with
    | some a => if readsAnswer sdi && sdi.length == a.frame.length then some .answerRead else none
    | none => none

/-- The command handed over when a selection ends after these bytes: a frame cut short, or one whose body length exceeds 60
(R174, R177). -/
def deselectCommand (sdi : List Byte) : Option Instr :=
  match classify sdi with
  | .cutShort kind => some (.cutShortFrame kind)
  | .malformed kind => if 60 < (byteAt sdi 2).toNat then some (.malformedFrame kind) else none
  | _ => none

/-- The request buffer written. -/
def State.setReceived (s : State) (sdi : List Byte) : State := { s with port := { s.port with received := sdi } }

/-- A command performed with these bytes in the request buffer; where there is none, they alone are written. A reset that the
command performs empties the buffer (R175). -/
def State.handOver (s : State) (c : Option Instr) (sdi : List Byte) : Result :=
  match c with
  | none => .next (s.setReceived sdi)
  | some c => exec c (s.setReceived sdi)

/-- The bytes that go out on SDO while these bytes of a selection are clocked in (R174): the answer in a read selection; filler
throughout a request selection, and in a selection that spans the end of a reset. -/
def State.selectionOut (s : State) (sdi : List Byte) : List Byte :=
  if readsAnswer sdi && s.port.ncs == .inactive then s.readSelection sdi.length else List.replicate sdi.length filler

/-- The byte that goes out on SDO while the next byte of a selection is clocked in (R174; log 36). -/
def State.sdoByte (s : State) (b : Byte) : Byte :=
  (s.selectionOut (s.port.received ++ [b])).getD s.port.received.length filler

/-- One byte clocked on SDI (R174): it joins the request buffer, and hands over the command it completes. A port that has not
seen NCS inactive since a reset takes none. -/
def State.clockByte (s : State) (closed : Bool) (pins : Pins) (b : Byte) : Result :=
  if s.powered ∧ s.port.ncs = .inactive then
    s.handOver (s.byteCommand closed pins (s.port.received ++ [b])) (s.port.received ++ [b])
  else .next s

/-- NCS becomes inactive (R174, R177): the request buffer is empty and NCS has been seen inactive; a frame left incomplete is
handed over as cut short, but not that of a selection that spans the end of a reset. -/
def State.deselect (s : State) : Result :=
  if s.powered then
    if s.port.ncs = .inactive then s.handOver (deselectCommand s.port.received) []
    else .next { s with port := LinkPort.rest }
  else .next s

end Sys2Proof.Machine
end

