-- ==== Sys2Proof/Safety.lean ====
section
/-! DEFINITION. Safety: the laws of the device, as properties of a state (the rules that open "It is the law of the
device"), the well-formedness of the model's lists, and the words in which the statements speak of commands and
answers. -/

namespace Sys2Proof.Machine

open Sys2Proof

/-- The loop guard's law at one gate: the barrier is not lowering in WARN or DRIVE while the loop is OCCUPIED (R99). -/
def Gate.guarded (g : Gate) : Prop :=
  match g.barrier with
  | .lowering .warn _ _ => g.occupied = false
  | .lowering .drive _ _ => g.occupied = false
  | _ => True

/-- The loop guard's law (R99). -/
def LoopGuard (s : State) : Prop := ∀ g, (s.gate g).guarded

/-- The emergency's law: while the latch is set both sessions are VACANT and no gate holds a waiting call (R139). -/
def LatchLaw (s : State) : Prop :=
  s.emergency.latch = true → (∀ d, (s.deck d).session = none) ∧ ∀ g, (s.gate g).waiting = none

/-- A record present is a valid one (R27). -/
def RecordsValid (s : State) : Prop := ∀ d r, (s.deck d).cal.record = some r → r.valid = true

/-- While the part is supplied, a deck is UNCALIBRATED exactly when its record is absent (R18). -/
def CalibrationLaw (s : State) : Prop :=
  s.powered = true → ∀ d, (s.deck d).cal.record = none ↔ (s.deck d).unit.reading.availability = .uncalibrated

/-- The law of the reported weight: of a calibrated deck, a whole multiple of the division from -20e to Max + 9e
(R10). -/
def WeightLaw (s : State) : Prop :=
  ∀ d r, (s.deck d).cal.record = some r →
    (r.division : Int) ∣ (s.deck d).unit.reading.weight ∧ -(20 * r.division : Int) ≤ (s.deck d).unit.reading.weight ∧
      (s.deck d).unit.reading.weight ≤ (r.max + 9 * r.division : Int)

/-- The law of the zeros: of a calibrated deck, Z_set lies in the zero range, and so does Z_d while the part is supplied
(R14, R36). -/
def ZeroLaw (s : State) : Prop :=
  ∀ d r, (s.deck d).cal.record = some r →
    r.inZeroRange (s.deck d).cal.zSet = true ∧ (s.powered = true → r.inZeroRange (s.deck d).unit.zd = true)

/-- What every step keeps of the decks: valid records, the availability that goes with them, and the laws of the weight
and of the zeros (R10, R14, R18, R27). -/
def DeckLaws (s : State) : Prop := RecordsValid s ∧ CalibrationLaw s ∧ WeightLaw s ∧ ZeroLaw s

/-- The sizes of the fixed tables: 128 slots, 32 waste kinds, 16 notice kinds (R40, R83, R167). -/
def Sizes (s : State) : Prop :=
  s.register.slots.length = 128 ∧ s.kinds.length = 32 ∧ s.notices.length = 16

/-- The vehicle entries stand in rising tag order: no two carry the same tag (R67). -/
def VehiclesOrdered (s : State) : Prop := s.vehicles.Pairwise fun a b => a.tag.toNat < b.tag.toNat

/-- The accounts stand in rising number order: no two carry the same number (R74). -/
def AccountsOrdered (s : State) : Prop := s.accounts.Pairwise fun a b => a.number.toNat < b.number.toNat

/-- What every step keeps of the tables: their fixed sizes, and keys that name one entry each. -/
def TableLaws (s : State) : Prop := Sizes s ∧ VehiclesOrdered s ∧ AccountsOrdered s

/-- The law of open visits: no two carry the same tag, and no two the same plate (R44). -/
def OpenUnique (s : State) : Prop :=
  ∀ i j v w, s.visit i = some v → s.visit j = some w → v.isOpen = true → w.isOpen = true →
    (v.plate = w.plate ∨ (v.tag.isSome = true ∧ v.tag = w.tag)) → i = j

/-- The law of ticket numbers: no two CLOSED visits carry the same one (R49). -/
def TicketsUnique (s : State) : Prop :=
  ∀ i j v w t u, s.visit i = some v → s.visit j = some w → v.ticket = some t → w.ticket = some u →
    t.number = u.number → i = j

/-- The law of the on-site counts: each equals the number of open visits that carry the account, and no open visit names
an account that is missing (R75). -/
def CountsLaw (s : State) : Prop :=
  (∀ a ∈ s.accounts, a.count = s.openOn a.number) ∧
    ∀ i v n, s.visit i = some v → v.isOpen = true → v.account = some n → (s.account n).isSome = true

/-- An ACTIVE account has its balance above its floor (R74). -/
def CreditLaw (s : State) : Prop := ∀ a ∈ s.accounts, a.state = .active → a.floor < a.balance

/-- The law of the session deck: while the part is supplied, a deck is named by exactly one visit, the session's, while
its session is CALLED, BOARDING or ON_DECK, and by none otherwise (R113). -/
def SessionDeckLaw (s : State) : Prop :=
  s.powered = true → ∀ d n, (∃ v, s.visit n = some v ∧ v.sessionDeck = some d) ↔
    ∃ x, (s.deck d).session = some x ∧ x.slot = n ∧ (x.stage = .called ∨ x.stage = .boarding ∨ x.stage = .onDeck)

/-- The law of retirement: no CLOSED visit is both collected and PRINTED or NOT_REQUIRED (R61). -/
def RetirementLaw (s : State) : Prop :=
  ∀ i v t, s.visit i = some v → v.ticket = some t → ¬ (t.collected = true ∧ t.settled = true)

/-! ### Words of the statements -/

/-- The part is supplied, its answer buffer is empty, and its port does not wait for NCS to be seen inactive: a frame that
completes now is performed (R174, R175). -/
def State.listening (s : State) : Prop := s.powered = true ∧ s.link = none ∧ s.port.ncs = .inactive

/-- The state with an answer written to the buffer (R175). -/
def State.answered (s : State) (kind : Byte) (code : ReplyCode) (body : Body := .empty) (adjusted : Bool := false) :
    State :=
  { s with link := some { kind := kind, code := code, adjusted := adjusted, overrun := false, body := body } }

end Sys2Proof.Machine

namespace Sys2Proof

/-- The command is a frame of the link that completes: a request, or a frame that cannot be read (R175 to R177). -/
def Instr.completesFrame : Instr → Bool
  | .answerRead | .powerOn _ | .pinReset _ | .cycleSlot _ | .cellAnswer _ _ | .answerWindowLapse _ | .warmUpLapse _
  | .loopStateChange _ _ | .limitSwitchChange _ _ _ | .warnTimeLapse _ | .driveLimitLapse _ | .settleTimeLapse _
  | .tagFrame _ _ | .callWaitLapse _ | .boardTimerLapse _ | .captureTimerLapse _ | .yardClockAdvance
  | .emergencyInputChange _ | .setupTimeLapse | .strobeTimeLapse | .holdTimeLapse | .pbusyChange _ _ | .busyWaitLapse
  | .pfltChange _ _ | .pdoneChange _ _ | .completionLimitLapse | .mainSupplyLoss _ => false
  | _ => true

/-- The requests that change no state but the answer, whatever their outcome. -/
def Instr.reads : Instr → Bool
  | .readDeck _ | .calGet _ _ _ | .find _ _ | .getVehicle _ _ | .getAccount _ | .getKind _ | .readSession _
  | .readPrinters | .readNotices | .status | .malformedFrame _ | .cutShortFrame _ => true
  | _ => false

end Sys2Proof
end

