-- ==== Sys2Proof/Certificates/Slice0/Obligations.lean ====
section
/-! DEFINITION. Obligations: what the model is claimed to do, for the provers. -/

open Sys2Proof Sys2Proof.Machine

/-! ### The step and the link -/

/-- One step performs the command at the front of the queue on the state with the queue's rest; with no command waiting
a millisecond of the part's own time base passes (the idle step is the model's choice: log 2). -/
def Obligations.StepRunsFrontOrIdles : Prop :=
  (∀ (c : Instr) (rest : List Instr) (s : State),
    step { s with pending := c :: rest } = exec c { s with pending := rest }) ∧
  ∀ s : State, s.pending = [] → step s = .next { s with now := s.now + 1000 }

/-- Every command answers a next state, and leaves the queue of waiting commands as it was. With the main supply off no
command but POWER_ON, MAIN_SUPPLY_LOSS and YARD_CLOCK_ADVANCE changes anything (log 5). -/
def Obligations.EveryCommandCompletes : Prop :=
  (∀ (c : Instr) (s : State), ∃ t, exec c s = .next t ∧ t.pending = s.pending) ∧
  ∀ (c : Instr) (s : State), s.powered = false →
    (∀ pins, c ≠ .powerOn pins) → (∀ b, c ≠ .mainSupplyLoss b) → c ≠ .yardClockAdvance → exec c s = .next s

/-- R174 to R177, R184, R185: a frame that completes while an answer is unread is not performed, that answer's overrun
mark becomes set and nothing else changes. With the buffer empty a frame that cannot be read is answered MALFORMED with
the kind received, or 0 without one, and changes nothing else. Reading an answer empties the buffer; that ANSWER_READ
and OVERRUN with the buffer empty change nothing is the model's choice (log 4). After a reset the selection that spans
its end is ignored whole; how a command that is handed over whole meets this is the model's choice (log 7). Byte by
byte: a byte of a selection joins the request buffer and hands over the frame it completes, or the reading of the answer
whose last byte it is; the end of a selection hands over a frame cut short or too long; a RESTART that a byte completes
leaves the port waiting for the end of its selection. A whole frame is read by its kind and length. SDO carries filler,
and in a read selection the answer's frame, then filler; that the frame begins with the byte that classifies the
selection is the model's choice (log 36). -/
def Obligations.LinkFramesAndAnswers : Prop :=
  (∀ (c : Instr) (s : State) (a : Answer), c.completesFrame = true → s.powered = true → s.port.ncs = .inactive →
     s.link = some a → exec c s = .next { s with link := some { a with overrun := true } }) ∧
  (∀ (c : Instr) (s : State), (c.completesFrame = true ∨ c = .answerRead) → s.powered = true → s.port.ncs = .unfinished →
     exec c s = .next { s with port := ⟨s.port.received, .inactive⟩ }) ∧
  (∀ (c : Instr) (s : State), (c.completesFrame = true ∨ c = .answerRead) → s.powered = true → s.port.ncs = .finished →
     exec c s = exec c { s with port := ⟨s.port.received, .inactive⟩ }) ∧
  (∀ s : State,
    (s.listening → ∀ kind, exec (.malformedFrame kind) s = .next (s.answered kind .malformed)) ∧
    (s.listening → ∀ kind, exec (.cutShortFrame (some kind)) s = .next (s.answered kind .malformed)) ∧
    (s.listening → exec (.cutShortFrame none) s = .next (s.answered 0 .malformed)) ∧
    (s.listening → exec .overrun s = .next s) ∧
    (s.powered = true → s.port.ncs = .inactive → exec .answerRead s = .next { s with link := none })) ∧
  (∀ (s : State) (closed : Bool) (pins : Pins) (b : Byte), s.powered = true →
    let sdi := s.port.received ++ [b]
    let got : State := { s with port := ⟨sdi, .inactive⟩ }
    let e := s.clockByte closed pins b
    let done := ∃ kind len body, sdi = 0xA5 :: kind :: len :: body ∧ len.toNat ≤ 60 ∧ body.length = len.toNat
    let last := (∃ first rest, sdi = first :: rest ∧ first ≠ 0xA5) ∧ ∃ a, s.link = some a ∧ sdi.length = a.frame.length
    (s.port.ncs ≠ .inactive → e = .next s) ∧
    (s.port.ncs = .inactive → done → ∀ c, commandOf closed { pins with ncs := .finished } sdi = some c →
      e = exec c got) ∧
    (s.port.ncs = .inactive → last → e = .next { got with link := none }) ∧
    (s.port.ncs = .inactive → ¬ done → ¬ last → e = .next got)) ∧
  (∀ s : State, s.powered = true →
    let ended : State := { s with port := ⟨[], .inactive⟩ }
    let sdi := s.port.received
    (s.port.ncs ≠ .inactive → s.deselect = .next ended) ∧
    (s.port.ncs = .inactive → sdi = [] ∨ sdi.head? ≠ some 0xA5 → s.deselect = .next ended) ∧
    (s.port.ncs = .inactive → sdi = [0xA5] → s.deselect = exec (.cutShortFrame none) ended) ∧
    (s.port.ncs = .inactive → ∀ kind, sdi = [0xA5, kind] → s.deselect = exec (.cutShortFrame (some kind)) ended) ∧
    (s.port.ncs = .inactive → ∀ kind len body, sdi = 0xA5 :: kind :: len :: body →
      (60 < len.toNat → s.deselect = exec (.malformedFrame kind) ended) ∧
      (len.toNat ≤ 60 → body.length < len.toNat → s.deselect = exec (.cutShortFrame (some kind)) ended) ∧
      (len.toNat ≤ 60 → len.toNat ≤ body.length → s.deselect = .next ended))) ∧
  (∀ closed pins kind len body, len.toNat ≤ 60 → body.length = len.toNat →
    (len.toNat ∈ lengthsOf kind → commandOf closed pins (0xA5 :: kind :: len :: body) = requestOf closed pins kind body ∧
      requestOf closed pins kind body ≠ none) ∧
    (len.toNat ∉ lengthsOf kind → commandOf closed pins (0xA5 :: kind :: len :: body) = some (.malformedFrame kind))) ∧
  (∀ a : Answer, a.frame = [0xA5, a.kind, match a.code with
      | .done => 0 | .busy => 1 | .notFound => 2 | .conflict => 3 | .stale => 4 | .wrongState => 5 | .full => 6
      | .guarded => 7 | .outOfRange => 8 | .refused => 9 | .deckUnavailable => 10 | .malformed => 11,
      if a.adjusted then 1 else 0, if a.overrun then 1 else 0, BitVec.ofNat 8 a.body.bytes.length] ++ a.body.bytes) ∧
  (∀ r : Revision, Body.bytes (.revision r) = [r.extractLsb' 8 8, r.extractLsb' 0 8]) ∧
  ∀ s : State,
    (∀ n, (s.link = none → s.readSelection n = List.replicate n 0x00) ∧
      ∀ a, s.link = some a → (s.readSelection n).length = n ∧
        ∀ i, i < n → (s.readSelection n)[i]? = some (a.frame.getD i 0x00)) ∧
    ∀ b : Byte,
      let first := (s.port.received ++ [b]).head?
      (first = some 0xA5 ∨ s.port.ncs ≠ .inactive ∨ s.link = none → s.sdoByte b = 0x00) ∧
      ∀ a, first ≠ some 0xA5 → s.port.ncs = .inactive → s.link = some a →
        s.sdoByte b = a.frame.getD s.port.received.length 0x00

/-! ### Reads -/

/-- R25, R35: what READ_DECK and CAL_GET answer. -/
def Obligations.DeckReads : Prop :=
  ∀ s : State, s.listening →
    (∀ b, exec (.readDeck b) s = .next (
      match deckOf b with
      | none => s.answered Code.readDeck .outOfRange
      | some d =>
        let k := s.deck d
        s.answered Code.readDeck .done (.deck {
          reading := k.unit.reading
          stable := match k.cal.record with
            | some r => decide (k.unit.reading.status = .valid ∧ r.stableCount ≤ k.unit.reading.still)
            | none => false
          zd := k.unit.zd
          rate := if k.session ≠ none ∨ (s.gate (d.gate .road)).occupied = true ∨ (s.gate (d.gate .yard)).occupied = true
            then .full else .reduced
          cells := (List.range 8).map fun i =>
            if (match k.cal.record with
              | some r => r.cells.getLsbD i
              | none => false) then ⟨true, (k.cells.cell i).failed, (k.cells.cell i).misses⟩
            else ⟨false, false, 0⟩ }))) ∧
    ∀ closed b part, exec (.calGet closed b part) s = .next (
      match deckOf b with
      | none => s.answered Code.calGet .outOfRange
      | some d =>
        let c := (s.deck d).cal
        if part = none ∨ part = some 0 then
          s.answered Code.calGet .done
            (.calPart0 d c.record closed c.changes (if c.record = none then 0 else c.zSet))
        else if part = some 1 then s.answered Code.calGet .done (.calPart1 c.record)
        else s.answered Code.calGet .outOfRange)

/-- R44, R52, R184, R186: FIND returns the live record of one slot and changes no state. By the key modes it is a slot that
matches, and NOT_FOUND where none does. A plate field is its characters, folded, before spaces; a key has its slot or signed
offset in the first byte, its tag or ticket number in the first four. -/
def Obligations.FindReturnsTheLiveRecord : Prop :=
  (∀ (l : List Byte) (p : Plate), plateOf l = some p ↔
    ∃ (cs : List Byte) (n : Nat), l = cs ++ List.replicate n 0x20 ∧ 1 ≤ cs.length ∧ cs.length ≤ 10 ∧
      (∀ c ∈ cs, (0x41 ≤ c.toNat ∧ c.toNat ≤ 0x5A) ∨ (0x61 ≤ c.toNat ∧ c.toNat ≤ 0x7A) ∨ (0x30 ≤ c.toNat ∧ c.toNat ≤ 0x39)) ∧
      p = cs.map fun c => if 0x61 ≤ c.toNat ∧ c.toNat ≤ 0x7A then c - 0x20 else c) ∧
  (∀ (a b c d : Byte) (rest : List Byte),
    let key := a :: b :: c :: d :: rest
    let n := ((a.toNat * 256 + b.toNat) * 256 + c.toNat) * 256 + d.toNat
    (keyTag key).map (fun t => t.toNat) = (if n = 0 then none else some n) ∧
    keyTicket key = (if 1 ≤ n ∧ n ≤ 99999999 then some n else none) ∧
    keySlot key = (if a.toNat < 128 then some a.toNat else none) ∧
    keyOffset key = (if a.toNat < 128 then (a.toNat : Int) else (a.toNat : Int) - 256)) ∧
  ∀ (s : State) (key : List Byte), s.listening →
    let found (n : Nat) : Host.Outcome State Fault Refusal :=
      .next (s.answered Code.find .done (.visit ⟨n, s.slot n⟩))
    let refused (c : ReplyCode) : Host.Outcome State Fault Refusal := .next (s.answered Code.find c)
    exec (.find 1 key) s = (if (byteAt key 0).toNat < 128 then found (byteAt key 0).toNat else refused .outOfRange) ∧
    (∀ mode (p : Visit → Bool),
      (mode = 2 ∧ ∃ t, keyTag key = some t ∧ p = fun v => v.isOpen && v.tag == some t) ∨
      (mode = 3 ∧ ∃ q, plateOf key = some q ∧ p = fun v => v.isOpen && v.plate == q) ∨
      (mode = 4 ∧ ∃ t, keyTicket key = some t ∧ p = fun v => v.ticket.any fun k => k.number == t) →
        (∃ n v, s.visit n = some v ∧ p v = true ∧ exec (.find mode key) s = found n) ∨
        ((∀ n v, s.visit n = some v → p v = false) ∧ exec (.find mode key) s = refused .notFound)) ∧
    (keyTag key = none → exec (.find 2 key) s = refused .outOfRange) ∧
    (plateOf key = none → exec (.find 3 key) s = refused .outOfRange) ∧
    (keyTicket key = none → exec (.find 4 key) s = refused .outOfRange) ∧
    (let n := (s.register.cursor.position : Int) + keyOffset key
     exec (.find 5 key) s = if 0 ≤ n ∧ n ≤ 127 then found n.toNat else refused .outOfRange) ∧
    ∀ mode : Byte, mode = 0 ∨ 5 < mode.toNat → exec (.find mode key) s = refused .malformed

/-- R71, R82, R84: what GET_VEHICLE, GET_ACCOUNT and GET_KIND answer. -/
def Obligations.TableReads : Prop :=
  ∀ s : State, s.listening →
    let today := s.service.clock.toNat / 86400
    let entry (v : Vehicle) : Body :=
      .vehicle v (match v.tare with
        | some t => decide (t.day ≤ today ∧ today - t.day < v.validity)
        | none => false) today
    (∀ mode key, exec (.getVehicle mode key) s = .next (
      if mode = 2 then
        match keyTag key with
        | none => s.answered Code.getVehicle .outOfRange
        | some t => match s.vehicles.find? fun v => v.tag == t with
          | some v => s.answered Code.getVehicle .done (entry v)
          | none => s.answered Code.getVehicle .notFound
      else if mode = 3 then
        match plateOf key with
        | none => s.answered Code.getVehicle .outOfRange
        | some p => match s.vehicles.find? fun v => v.plate == p with
          | some v => s.answered Code.getVehicle .done (entry v)
          | none => s.answered Code.getVehicle .notFound
      else s.answered Code.getVehicle .malformed)) ∧
    (∀ n, exec (.getAccount n) s = .next (
      if n = 0 then s.answered Code.getAccount .outOfRange
      else match s.account n with
        | some a => s.answered Code.getAccount .done (.account a)
        | none => s.answered Code.getAccount .notFound)) ∧
    ∀ code : Byte, exec (.getKind code) s = .next (
      if 1 ≤ code.toNat ∧ code.toNat ≤ 32 then
        s.answered Code.getKind .done (.kind code.toNat (s.kinds.getD (code.toNat - 1) Kind.initial))
      else s.answered Code.getKind .outOfRange)

/-- R111, R133, R164, R172, R178: what READ_GATE, READ_SESSION, READ_PRINTERS, READ_NOTICES and STATUS answer. A clear
option that is no yes/no value is refused (the model's choice: log 20). That the record of a session carries its clear
mark and its check waiver in every state but VACANT is the model's choice (log 37). -/
def Obligations.BlockReads : Prop :=
  ∀ s : State, s.listening →
    (∀ b clear, exec (.readGate b clear) s = .next (
      match gateOf b, flagOf clear with
      | some g, some c =>
        let k := s.gate g
        (if c then s.setGate g { k with drops := 0 } else s).answered Code.readGate .done (.gate {
          barrier := k.barrier, request := k.request, locked := k.locked, pass := k.pass
          green := decide (k.barrier = .up ∧ k.pass = true ∨ k.barrier = .forced)
          occupied := k.occupied, upSwitch := k.upSwitch, downSwitch := k.downSwitch
          warnTime := k.warnTime, driveLimit := k.driveLimit, settleTime := k.settleTime
          memory := k.memory.map fun m => m.tag, drops := k.drops, waiting := k.waiting.isSome })
      | _, _ => s.answered Code.readGate .outOfRange)) ∧
    (∀ b, exec (.readSession b) s = .next (
      match deckOf b with
      | none => s.answered Code.readSession .outOfRange
      | some d =>
        let k := s.deck d
        let left (due : Nat) : Nat := (due - s.now + 999999) / 1000000
        let call (g : GateId) : Option CallImage :=
          (s.gate g).waiting.map fun c => ⟨c.form, s.now / 1000 - c.stamp, left c.due⟩
        s.answered Code.readSession .done (.session {
          record := k.session, boardLeft := (k.session.bind fun v => v.boardDue).map left
          captureLeft := (k.session.bind fun v => v.captureDue).map left, times := k.times
          roadCall := call (d.gate .road), yardCall := call (d.gate .yard) }))) ∧
    (let image (p : PrinterId) : PrinterImage :=
      ⟨s.printing.printers.get p, s.waitingCount p, (s.oldestWaiting p).map fun x => x.2⟩
     exec .readPrinters s = .next (s.answered Code.readPrinters .done (.printers {
      p1 := image .p1, p2 := image .p2, lastServed := s.printing.lastServed, times := s.printing.times
      job := s.printing.job.map fun j =>
        ⟨j.printer, j.slot, j.ticket, j.copy, match j.phase with
          | .completing due => .completing ((due - s.now + 999999) / 1000000)
          | _ => .sending j.sent⟩ }))) ∧
    exec .readNotices s = .next (s.answered Code.readNotices .done (.notices s.notices
      (s.notices.any fun l => l.detail.isSome) (s.notices.any fun l => l.detail.isSome && l.level == .urgent))) ∧
    exec .status s = .next (s.answered Code.status .done (.status {
      identity := Config.partIdentity, silicon := Config.siliconRevision, cause := s.service.cause
      intact := s.service.intact, quiet := s.service.quiet, wake := s.service.wake, latch := s.emergency.latch
      emergencyInput := s.emergency.input, deck1 := (s.deck .d1).unit.reading.availability
      deck2 := (s.deck .d2).unit.reading.availability, nextTicket := s.register.nextTicket
      freeCount := s.register.slots.countP fun sl => sl.visit.isNone, clock := s.service.clock
      clockSet := s.service.clockSet }))

/-! ### Deck Weighing -/

/-- R4, R19, R26: RETRY_CELL, examined in its order, clears the cell's FAILED mark and miss count. The lapse of the warm-up
timer sets the skip count to 3, and cycles may start; a deck with a FAILED enabled cell becomes FAULT and drops its waiting
calls with CALL_REFUSED, the road end first (R117), without a DECK_FAULT. -/
def Obligations.RetryCellAndWarmUp : Prop :=
  (∀ (s : State) (b cell : Byte), s.listening → exec (.retryCell b cell) s = .next (
     match deckOf b with
     | none => s.answered Code.retryCell .outOfRange
     | some d =>
       let k := s.deck d
       if 8 ≤ cell.toNat then s.answered Code.retryCell .outOfRange
       else match k.cal.record with
         | none => s.answered Code.retryCell .deckUnavailable
         | some r =>
           if r.cells.getLsbD cell.toNat = true then
             (s.setDeck d { k with cells := { k.cells with
               cells := k.cells.cells.set cell.toNat ⟨0, false⟩ } }).answered Code.retryCell .done
           else s.answered Code.retryCell .notFound)) ∧
  ∀ (s : State) (d : DeckId) (due : Nat), s.powered = true → (s.deck d).unit.warmUp = some due →
    let k := s.deck d
    let failed := ∃ r i, k.cal.record = some r ∧ i < 8 ∧ r.cells.getLsbD i = true ∧ (k.cells.cell i).failed = true
    let s' : State := { s with now := max s.now due }
    (¬ failed → exec (.warmUpLapse d) s = .next (s'.setDeck d { k with
      cells := { k.cells with skip := 3 }, unit := { k.unit with warmUp := none } })) ∧
    let refuse (g : GateId) (x : State) : State := if (s.gate g).waiting = none then x else
      (x.setGate g { s.gate g with waiting := none }).raise .callRefused (.refusal g .deckUnavailable)
    (failed → exec (.warmUpLapse d) s = .next (refuse (d.gate .yard) (refuse (d.gate .road) (s'.setDeck d { k with
      cells := { k.cells with skip := 3 }
      unit := { k.unit with warmUp := none, reading := { k.unit.reading with availability := .fault } } }))))

/-- R1, R4: a slot boundary. Where cycles run and none is in progress, a cycle begins at FULL rate or at a skip count of
3, with a READ to the first polled cell and a 2 ms window, or, with no cell to poll, ends at once with its evaluation; else
the skip count increments. Where cycles do not run the slot only passes; that it does so too, with no skip counted, while a
cycle is in progress is the model's reading (log 25). -/
def Obligations.CycleSlotPollsByRate : Prop :=
  ∀ (s : State) (d : DeckId), s.powered = true →
    let k := s.deck d
    let passed : CellLink := { k.cells with slotDue := k.cells.slotDue + 50000 }
    let s' : State := { s with now := max s.now k.cells.slotDue }
    let runs := k.unit.reading.availability = .ready ∨ k.unit.reading.availability = .fault ∨
      (k.unit.reading.availability = .warming ∧ k.unit.warmUp = none)
    let full := k.session ≠ none ∨ (s.gate (d.gate .road)).occupied = true ∨ (s.gate (d.gate .yard)).occupied = true
    let polled := match k.cal.record with
      | some r => (List.range 8).filter fun i => r.cells.getLsbD i && !(k.cells.cell i).failed
      | none => []
    (¬ (runs ∧ k.cells.cycle = none) → exec (.cycleSlot d) s = .next (s'.setDeck d { k with cells := passed })) ∧
    (runs → k.cells.cycle = none → ¬ full → k.cells.skip ≠ 3 →
      exec (.cycleSlot d) s = .next (s'.setDeck d { k with cells := { passed with skip := k.cells.skip + 1 } })) ∧
    let warming := decide (k.unit.reading.availability = .warming)
    (∀ i rest, runs → k.cells.cycle = none → (full ∨ k.cells.skip = 3) → polled = i :: rest →
      exec (.cycleSlot d) s = .next (s'.setDeck d { k with cells := { passed with
        skip := 0, cycle := some ⟨warming, i, rest, [], s'.now + 2000⟩ } })) ∧
    (runs → k.cells.cycle = none → (full ∨ k.cells.skip = 3) → polled = [] →
      exec (.cycleSlot d) s = .next ((s'.setDeck d { k with cells := { passed with skip := 0, cycle := none } }).evaluate d
        warming []))

/-- R1 to R3, R188, R189: an answer frame is seven bytes that begin with A3h and sum to 0. One that comes while no window is
open, and one that fails its check, change nothing. A good answer clears the miss count, a miss short of the third
increments it; with cells still to read the next READ opens its window, and after the last cell the cycle ends with its
evaluation. -/
def Obligations.CellExchangeGoesOn : Prop :=
  (∀ (f : List Byte) (a : Nat) (count : Int) (st : Nat), cellFrame f = some (a, count, st) ↔
    ∃ address c1 c2 c3 status check : Byte, f = [0xA3, address, c1, c2, c3, status, check] ∧
      0xA3 + address + c1 + c2 + c3 + status + check = 0 ∧ a = address.toNat ∧ st = status.toNat ∧
      count = (c1.toNat * 65536 + c2.toNat * 256 + c3.toNat : Nat) - (if 128 ≤ c1.toNat then (16777216 : Int) else 0)) ∧
  ∀ (s : State) (d : DeckId), s.powered = true →
    let k := s.deck d
    (∀ f, k.cells.cycle = none ∨ cellFrame f = none → exec (.cellAnswer d f) s = .next s) ∧
    ∀ c, k.cells.cycle = some c →
      let cell := k.cells.cell c.awaiting
      let goOn (t : State) (x : Cell) (good : List Good) : State := match c.todo with
        | i :: rest => t.setDeck d { k with cells := { k.cells with
            cells := k.cells.cells.set c.awaiting x, cycle := some ⟨c.warming, i, rest, good, t.now + 2000⟩ } }
        | [] => (t.setDeck d { k with cells := { k.cells with
            cells := k.cells.cells.set c.awaiting x, cycle := none } }).evaluate d c.warming good
      (∀ f count st, cellFrame f = some (c.awaiting, count, st) → st ≤ 1 → exec (.cellAnswer d f) s =
        .next (goOn s ⟨0, cell.failed⟩ (c.good ++ [⟨c.awaiting, count, decide (st = 1)⟩]))) ∧
      (cell.misses < 2 →
        (∀ f a count st, cellFrame f = some (a, count, st) → (a ≠ c.awaiting ∨ 1 < st) →
          exec (.cellAnswer d f) s = .next (goOn s ⟨cell.misses + 1, cell.failed⟩ c.good)) ∧
        exec (.answerWindowLapse d) s =
          .next (goOn { s with now := max s.now c.windowDue } ⟨cell.misses + 1, cell.failed⟩ c.good))

/-- R3, R20, R117: the third consecutive miss of a cell, by a lapsed window or by an answer of another address or status,
makes it FAILED and raises DECK_FAULT with its deck and address; a READY or WARMING deck becomes FAULT and drops its waiting
calls with CALL_REFUSED, the road end first. The cycle goes on with the next cell, or ends with its evaluation. -/
def Obligations.ThirdMissFailsTheCell : Prop :=
  ∀ (s : State) (d : DeckId) (c : Cycle), s.powered = true → (s.deck d).cells.cycle = some c →
    2 ≤ ((s.deck d).cells.cell c.awaiting).misses →
    let k := s.deck d
    let faults := k.unit.reading.availability = .ready ∨ k.unit.reading.availability = .warming
    let k' : Deck := { k with
      cells := { k.cells with cells := k.cells.cells.set c.awaiting ⟨3, true⟩ }
      unit := if faults then { k.unit with reading := { k.unit.reading with availability := .fault } } else k.unit }
    let refuse (g : GateId) (x : State) : State := if ¬ faults ∨ (s.gate g).waiting = none then x else
      (x.setGate g { s.gate g with waiting := none }).raise .callRefused (.refusal g .deckUnavailable)
    let missed (t : State) (cycle : Option Cycle) : State :=
      refuse (d.gate .yard) (refuse (d.gate .road)
        ((t.setDeck d { k' with cells := { k'.cells with cycle := cycle } }).raise .deckFault (.cell d c.awaiting)))
    let goOn (t : State) : State := match c.todo with
      | i :: rest => missed t (some ⟨c.warming, i, rest, c.good, t.now + 2000⟩)
      | [] => (missed t none).evaluate d c.warming c.good
    exec (.answerWindowLapse d) s = .next (goOn { s with now := max s.now c.windowDue }) ∧
    ∀ f a count st, cellFrame f = some (a, count, st) → (a ≠ c.awaiting ∨ 1 < st) →
      exec (.cellAnswer d f) s = .next (goOn s)

/-- R8, R9: the quotient of the weight arithmetic is the nearest whole number, a tie going to the one of larger
magnitude; the raw deck weight is the sum of the cell weights over the enabled set; the reported weight is so a whole
multiple of the division. -/
def Obligations.WeightIsRoundedToNearest : Prop :=
  (∀ (x : Int) (m : Nat), 0 < m →
    2 * (roundAway x m * m - x).natAbs ≤ m ∧
    (2 * (roundAway x m * m - x).natAbs = m → x.natAbs < (roundAway x m * m).natAbs)) ∧
  (∀ (r : CalRecord) (g : Good), r.cellWeight g =
    roundAway ((g.count - r.zeros.getD g.cell 0) * (r.spans.getD g.cell 0 : Int)) 1024) ∧
  (∀ (r : CalRecord) (good : List Good) (w : Nat → Int), (good.map fun g => g.cell).Nodup → (∀ g ∈ good, g.cell < 8) →
    (∀ i < 8, r.cells.getLsbD i = true → ∃ g ∈ good, g.cell = i) → (∀ g ∈ good, w g.cell = r.cellWeight g) →
    r.rawWeight good = (((List.range 8).filter fun i => r.cells.getLsbD i).map w).sum) ∧
  ∀ (r : CalRecord) (net : Int), r.reported net = roundAway net (1000 * r.division) * (r.division : Int)

/-- R6, R7, R9 to R13, R15, R16, R20, R23, R118: the end of a cycle. The evaluation replaces the weighing unit: by an
incomplete cycle PARTIAL, or nothing where the cycle began in WARMING, also where the deck became FAULT in it (log 11); by a
complete one OVER, UNDER, or VALID with the weights, stillness and tracking. A tracking adjustment that falls outside the
zero range raises ZERO_DRIFT. The session then takes its part, and the waiting calls are offered where the deck became READY
or a VALID evaluation brought its weight below the threshold. -/
def Obligations.EvaluationWritesTheReading : Prop :=
  ∀ (s : State) (d : DeckId) (r : CalRecord) (warming : Bool) (good : List Good), (s.deck d).cal.record = some r →
    let k := s.deck d
    let u := k.unit
    let complete := ∀ i < 8, r.cells.getLsbD i = true → ∃ g ∈ good, g.cell = i
    let raw := r.rawWeight good
    let net := raw - u.zd
    let isOver := (∃ g ∈ good, r.cells.getLsbD g.cell = true ∧ g.overrange = true) ∨ net > (r.max + 9 * r.division) * 1000
    let isUnder := net < -(20 * r.division * 1000)
    let failed := (List.range 8).any fun i => r.cells.getLsbD i && (k.cells.cell i).failed
    let availability := if u.reading.availability = .warming ∨ (u.reading.availability = .fault ∧ failed = false) then
      Availability.ready else u.reading.availability
    let stays := u.refPresent = true ∧ (net - u.ref).natAbs ≤ r.motionBand * r.division * 500
    let still := if stays then min 255 (u.reading.still + 1) else 0
    let ref := if stays then u.ref else net
    let qualifies := k.session = none ∧ (s.gate (d.gate .road)).occupied = false ∧
      (s.gate (d.gate .yard)).occupied = false ∧ r.stableCount ≤ still ∧ net ≠ 0 ∧ net.natAbs ≤ r.division * 500
    let fits := (u.zd + net - r.zCal).natAbs ≤ 40 * r.max
    let valid : Weigher := { u with ref := ref, refPresent := true, reading := { u.reading with
      availability := availability, status := .valid, net := net, weight := r.reported net, current := true
      still := still, track := 0, lastComplete := s.service.clock, raw := raw } }
    let isValid := complete ∧ ¬ isOver ∧ ¬ isUnder
    let drifts := isValid ∧ qualifies ∧ 19 ≤ u.reading.track ∧ ¬ fits
    ∃ u' : Weigher,
      (¬ complete → warming = true → u' = u) ∧
      (¬ complete → warming = false → u' = { u with refPresent := false, reading := { u.reading with
        status := .partialCycle, current := false, still := 0, track := 0 } }) ∧
      (complete → isOver ∨ isUnder → u' = { u with refPresent := false, reading := { u.reading with
        availability := availability, status := if isOver then .over else .under, current := false, still := 0, track := 0
        lastComplete := s.service.clock, raw := raw } }) ∧
      (isValid → ¬ qualifies → u' = valid) ∧
      (isValid → qualifies → u.reading.track < 19 →
        u' = { valid with reading := { valid.reading with track := u.reading.track + 1 } }) ∧
      (isValid → qualifies → 19 ≤ u.reading.track → fits →
        u' = { valid with zd := u.zd + net, ref := ref - net, reading := { valid.reading with current := false } }) ∧
      (drifts → u' = valid) ∧
      let s1 := if drifts then (s.setDeck d { k with unit := u' }).raise .zeroDrift (.deck d)
        else s.setDeck d { k with unit := u' }
      let k1 := s1.deck d
      let able := (u.reading.availability ≠ .ready ∧ u'.reading.availability = .ready) ∨
        (u'.reading.status = .valid ∧ (r.threshold : Int) ≤ u.reading.weight ∧ u'.reading.weight < r.threshold)
      let t := s.evaluate d warming good
      k1.unit = u' ∧ (able → t = (s1.sessionEvaluation d).offer d) ∧ (¬ able → t = s1.sessionEvaluation d) ∧
      (t.deck d).unit = u' ∧ (t.deck d).cal = k.cal ∧ (t.deck d).times = k.times ∧ (t.deck d).cells = k.cells ∧
      (∀ d', d' ≠ d → t.deck d' = s.deck d') ∧ t.pending = s.pending ∧ t.powered = s.powered ∧
      t.now = s.now ∧ t.link = s.link ∧ t.port = s.port ∧ t.kinds = s.kinds ∧ t.emergency = s.emergency ∧
      t.service = s.service

/-! ### Calibration and Zero Setting -/

/-- R31 to R33, R22: CAL_PUT, examined in its order, and the effects of its acceptance. -/
def Obligations.CalPutReplacesTheRecord : Prop :=
  ∀ (s : State) (closed : Bool) (b : CalBody), s.listening → (Instr.calPut closed b).wf = true →
    let k := s.deck b.deck
    let inRange := b.cells ≠ 0 ∧ 0 ∉ b.spans ∧ -2000000000 ≤ b.zCal.toInt ∧ b.zCal.toInt ≤ 2000000000 ∧
      1000 ≤ b.max.toNat ∧ b.max.toNat ≤ 200000 ∧ b.division.toNat ∈ [1, 2, 5, 10, 20, 50, 100] ∧
      1 ≤ b.threshold.toNat ∧ b.threshold.toNat ≤ b.max.toNat ∧ 1 ≤ b.motionBand.toNat ∧ b.motionBand.toNat ≤ 8 ∧
      1 ≤ b.stableCount.toNat ∧ b.max.toNat % b.division.toNat = 0 ∧ 500 ≤ b.max.toNat / b.division.toNat ∧
      b.max.toNat / b.division.toNat ≤ 10000
    exec (.calPut closed b) s = .next (
      if closed = false then s.answered Code.calPut .guarded
      else if k.session ≠ none then s.answered Code.calPut .busy
      else if k.cal.changes = 65535 then s.answered Code.calPut .guarded
      else if ¬ inRange then s.answered Code.calPut .outOfRange
      else (s.setDeck b.deck { k with
        cal := { record := some { cells := b.cells, zeros := b.zeros.map (·.toInt), spans := b.spans.map (·.toNat)
                                  zCal := b.zCal.toInt, max := b.max.toNat, division := b.division.toNat
                                  threshold := b.threshold.toNat, motionBand := b.motionBand.toNat
                                  stableCount := b.stableCount.toNat, changeTime := s.service.clock }
                 changes := k.cal.changes + 1, zSet := b.zCal.toInt }
        cells := { k.cells with cells := List.replicate 8 ⟨0, false⟩, cycle := none }
        unit := { zd := b.zCal.toInt, ref := k.unit.ref, refPresent := false
                  warmUp := if s.service.quiet = true then none else some (s.now + 2000000)
                  reading := { availability := if s.service.quiet = true then .asleep else .warming
                               status := .noStatus, net := 0, weight := 0, current := false, still := 0, track := 0
                               lastComplete := k.unit.reading.lastComplete, raw := 0 } } }).answered Code.calPut .done)

/-- R37, R38: ZERO, examined in its order, and the effects of its acceptance. -/
def Obligations.ZeroSetsTheZeros : Prop :=
  ∀ (s : State) (b : Byte), s.listening → exec (.zero b) s = .next (
    match deckOf b with
    | none => s.answered Code.zero .outOfRange
    | some d =>
      let k := s.deck d
      let u := k.unit
      match k.cal.record with
      | none => s.answered Code.zero .deckUnavailable
      | some r =>
        if u.reading.availability ≠ .ready then s.answered Code.zero .deckUnavailable
        else if k.session ≠ none then s.answered Code.zero .wrongState
        else if ¬ (u.reading.status = .valid ∧ r.stableCount ≤ u.reading.still) then s.answered Code.zero .wrongState
        else if 40 * r.max < (u.reading.raw - r.zCal).natAbs then s.answered Code.zero .outOfRange
        else (s.setDeck d { k with
          cal := { k.cal with zSet := u.reading.raw }
          unit := { u with zd := u.reading.raw
                           ref := if u.refPresent = true then u.ref - (u.reading.raw - u.zd) else u.ref
                           reading := { u.reading with current := false, track := 0 } } }).answered Code.zero .done)

/-! ### The Visit Register -/

/-- R40: the write of a slot increments its revision by one, with wrap, exactly when something in the slot changes, and
touches no other slot. -/
def Obligations.RevisionCountsChanges : Prop :=
  ∀ (s : State) (n : Nat) (v : Option Visit), n < s.register.slots.length →
    (s.writeSlot n v).visit n = v ∧
    ((s.writeSlot n v).slot n).revision = (if s.visit n = v then (s.slot n).revision else (s.slot n).revision + 1) ∧
    (∀ m, m ≠ n → (s.writeSlot n v).slot m = s.slot m) ∧
    (s.writeSlot n v).register.slots.length = s.register.slots.length ∧
    (s.writeSlot n v).register.nextTicket = s.register.nextTicket ∧
    (s.writeSlot n v).register.cursor = s.register.cursor

/-- R53, R54: SEEK fills the walk buffer with the first match from the given slot in the step's direction, or END; WALK
returns the buffer as it stands and fills it from the next slot. -/
def Obligations.SeekAndWalkMoveTheCursor : Prop :=
  ∀ s : State, s.listening →
    let isFirst (st : WalkStep) (f : WalkFilter) (n m : Nat) : Prop := match st with
      | .up => n ≤ m ∧ m < 128 ∧ f.passes (s.slot m) = true ∧ ∀ i, n ≤ i → i < m → f.passes (s.slot i) = false
      | .down => m ≤ n ∧ m < 128 ∧ f.passes (s.slot m) = true ∧
          ∀ i, m < i → i ≤ n → i < 128 → f.passes (s.slot i) = false
      | .stay => m = n
    let isNone (st : WalkStep) (f : WalkFilter) (n : Nat) : Prop := match st with
      | .up => ∀ i, n ≤ i → i < 128 → f.passes (s.slot i) = false
      | .down => ∀ i, i ≤ n → i < 128 → f.passes (s.slot i) = false
      | .stay => False
    let moved (c : Cursor) : State := { s with register := { s.register with cursor := c } }
    (∀ slot step filter : Byte, (slotOf slot = none ∨ stepOf step = none ∨ filterOf filter = none) →
      exec (.seek slot step filter) s = .next (s.answered Code.seek .outOfRange)) ∧
    (∀ (slot step filter : Byte) n st f, slotOf slot = some n → stepOf step = some st → filterOf filter = some f →
      (∀ m, isFirst st f n m → exec (.seek slot step filter) s = .next
        ((moved ⟨m, st, f, some ⟨m, s.slot m⟩⟩).answered Code.seek .done (.seekSlot m))) ∧
      (isNone st f n → exec (.seek slot step filter) s = .next
        ((moved ⟨n, st, f, none⟩).answered Code.seek .done .walkEnd))) ∧
    (s.register.cursor.buffer = none → exec .walk s = .next (s.answered Code.walk .done .walkEnd)) ∧
    ∀ snap, s.register.cursor.buffer = some snap →
      let c := s.register.cursor
      let start := match c.step with
        | .up => snap.number + 1
        | .down => snap.number - 1
        | .stay => snap.number
      let past := c.step = .down ∧ snap.number = 0
      (∀ m, ¬ past → isFirst c.step c.filter start m → exec .walk s = .next
        ((moved { c with position := m, buffer := some ⟨m, s.slot m⟩ }).answered Code.walk .done (.visit snap))) ∧
      (past ∨ isNone c.step c.filter start → exec .walk s = .next
        ((moved { c with position := snap.number, buffer := none }).answered Code.walk .done (.visit snap)))

/-- R55, R57, R59 to R61: a visit request on a slot that does not exist is refused with OUT_OF_RANGE, and one that expects
another revision with STALE, whose answer carries the slot's revision. CANCEL_VISIT frees an ON_SITE visit, RESOLVE DISCARD
a HELD one, and COLLECT retires a CLOSED one that is PRINTED or NOT_REQUIRED and marks another collected; in any other
state each is refused with WRONG_STATE. -/
def Obligations.VisitRequestsAndLeaving : Prop :=
  (∀ (s : State) (slot : Byte) (expected : Option Revision) (c : Instr) (kind : Byte), s.listening →
     ((kind = Code.amend ∧ ∃ k p a, c = .amend slot expected k p a) ∨
       (kind = Code.cancelVisit ∧ c = .cancelVisit slot expected) ∨
       (kind = Code.resolve ∧ ∃ a t n, c = .resolveClose slot expected a t n) ∨
       (kind = Code.resolve ∧ c = .resolveDiscard slot expected) ∨
       (kind = Code.collect ∧ c = .collect slot expected) ∨
       (kind = Code.redirect ∧ ∃ t, c = .redirect slot expected t) ∨
       (kind = Code.reprint ∧ c = .reprint slot expected)) →
     (128 ≤ slot.toNat → exec c s = .next (s.answered kind .outOfRange)) ∧
     (slot.toNat < 128 → (∃ r, expected = some r ∧ r ≠ (s.slot slot.toNat).revision) →
       exec c s = .next (s.answered kind .stale (.revision (s.slot slot.toNat).revision)))) ∧
  ∀ (s : State) (slot : Byte) (expected : Option Revision), s.listening → slot.toNat < 128 →
    (expected = none ∨ expected = some (s.slot slot.toNat).revision) →
    let n := slot.toNat
    let r := (s.slot n).revision
    let left (x : Option Visit) : State :=
      { s with register := { s.register with slots := s.register.slots.set n ⟨r + 1, x⟩ } }
    exec (.cancelVisit slot expected) s = .next (
      match s.visit n with
      | some v => match v.state with
        | .onSite _ => State.answered
            { left none with accounts := s.accounts.map fun a =>
              if v.account = some a.number then { a with count := a.count - 1 } else a }
            Code.cancelVisit .done (.revision (r + 1))
        | _ => s.answered Code.cancelVisit .wrongState (.revision r)
      | none => s.answered Code.cancelVisit .wrongState (.revision r)) ∧
    exec (.resolveDiscard slot expected) s = .next (
      match s.visit n with
      | some v => match v.state with
        | .held _ _ _ _ => (left none).answered Code.resolve .done (.revision (r + 1))
        | _ => s.answered Code.resolve .wrongState (.revision r)
      | none => s.answered Code.resolve .wrongState (.revision r)) ∧
    exec (.collect slot expected) s = .next (
      match s.visit n with
      | some v => match v.state with
        | .closed t =>
          if t.mark = .printed ∨ t.mark = .notRequired then
            (left none).answered Code.collect .done (.revision (r + 1))
          else if t.collected = true then s.answered Code.collect .done (.revision r)
          else (left (some { v with state := .closed { t with collected := true } })).answered
            Code.collect .done (.revision (r + 1))
        | _ => s.answered Code.collect .wrongState (.revision r)
      | none => s.answered Code.collect .wrongState (.revision r))

/-- R56, R75: AMEND of an ON_SITE visit, its checks in their order and its effects; any other state is refused with
WRONG_STATE. That a carried kind equal to the visit's own is examined like any other is the model's reading (log 31). -/
def Obligations.AmendChangesTheVisit : Prop :=
  ∀ (s : State) (slot : Byte) (expected : Option Revision) (kind : Option Byte) (plate : Option (List Byte))
    (account : Option AccountNo), s.listening → slot.toNat < 128 →
    (expected = none ∨ expected = some (s.slot slot.toNat).revision) →
    let n := slot.toNat
    let r := (s.slot n).revision
    let e := exec (.amend slot expected kind plate account) s
    ((∀ v w, s.visit n = some v → v.state ≠ .onSite w) →
      e = .next (s.answered Code.amend .wrongState (.revision r))) ∧
    ∀ v w, s.visit n = some v → v.state = .onSite w →
      let newKind := (kind.map fun b => b.toNat).getD v.kind
      let newPlate := (plate.bind plateOf).getD v.plate
      let newAccount := match account with
        | some a => accountOf a
        | none => v.account
      let v' : Visit := { v with kind := newKind, plate := newPlate, account := newAccount }
      let badRange := (∃ b, kind = some b ∧ ¬ (1 ≤ b.toNat ∧ b.toNat ≤ 32)) ∨ (∃ l, plate = some l ∧ plateOf l = none)
      let badKind := kind ≠ none ∧ ¬ ((s.kind newKind).accepted = true ∧ (s.kind newKind).allows v.direction = true)
      let badPlate := plate ≠ none ∧ newPlate ≠ v.plate ∧
        ∃ m u, s.visit m = some u ∧ u.isOpen = true ∧ u.plate = newPlate
      let badAccount := ∃ a, newAccount = some a ∧ newAccount ≠ v.account ∧
        ∀ x, s.account a = some x → x.state ≠ .active ∨ x.limit ≤ x.count
      (badRange → e = .next (s.answered Code.amend .outOfRange (.revision r))) ∧
      (¬ badRange → badKind → e = .next (s.answered Code.amend .refused (.revision r))) ∧
      (¬ badRange → ¬ badKind → badPlate → e = .next (s.answered Code.amend .conflict (.revision r))) ∧
      (¬ badRange → ¬ badKind → ¬ badPlate → badAccount →
        e = .next (s.answered Code.amend .refused (.revision r))) ∧
      (¬ badRange → ¬ badKind → ¬ badPlate → ¬ badAccount →
        e = .next (State.answered
          { s with
            register := { s.register with
              slots := s.register.slots.set n ⟨if v' = v then r else r + 1, some v'⟩ }
            accounts := if newAccount = v.account then s.accounts else s.accounts.map fun a =>
              if v.account = some a.number then { a with count := a.count - 1 }
              else if newAccount = some a.number then { a with count := a.count + 1 } else a }
          Code.amend .done (.revision (if v' = v then r else r + 1))))

/-- R58: RESOLVE CLOSE of a HELD visit: the target and the override are examined, the held checks run again without an
override, and the visit closes with the named target; the print bus is then served (the answer's revision is that of the
close itself: log 13). An action other than CLOSE and DISCARD is refused. -/
def Obligations.ResolveClosesHeldVisits : Prop :=
  ∀ (s : State) (slot : Byte) (expected : Option Revision) (action target : Byte) (net : Option (BitVec 32)),
    s.listening → slot.toNat < 128 → (expected = none ∨ expected = some (s.slot slot.toNat).revision) → action ≠ 2 →
    let n := slot.toNat
    let r := (s.slot n).revision
    let refused (c : ReplyCode) : State := s.answered Code.resolve c (.revision r)
    exec (.resolveClose slot expected action target net) s = .next (
      match s.visit n with
      | some v => match v.state with
        | .held first second _ _ =>
          if action ≠ 1 then refused .outOfRange
          else match targetOf target with
          | none => refused .outOfRange
          | some p =>
            match net with
            | some x =>
              if 0 ≤ x.toInt ∧ x.toInt ≤ 200000 then
                (s.closeRecord n v ⟨first, second, x.toInt, true, p, false⟩).serveBus.answered
                  Code.resolve .done (.revision (r + 1))
              else refused .outOfRange
            | none =>
              let k := match v.direction with
                | .deliver => first.weight - second.weight
                | .collect => second.weight - first.weight
              if k < 20 * max ((s.deck first.deck).division : Int) (s.deck second.deck).division then refused .wrongState
              else (s.closeRecord n v ⟨first, second, k, false, p, false⟩).serveBus.answered
                Code.resolve .done (.revision (r + 1))
        | _ => refused .wrongState
      | none => refused .wrongState)

/-- R49 to R51, R86, R87: what a close writes: the ticket, the counter, the account, the stored tare and COLLECT_WAITING;
nothing else. -/
def Obligations.CloseWritesTheTicket : Prop :=
  ∀ (s : State) (n : Nat) (v u : Visit) (c : Closing), s.visit n = some u → u.isClosed = false →
    let number := s.ticketNumber
    let k := s.kind v.kind
    let amount : Nat := max k.minimum ((c.net.toNat * k.rate + 500) / 1000)
    let debited (x : Account) : Int := max (-2147483648) (min 2147483647 (x.balance - amount))
    let ticket : Ticket :=
      { first := c.first, second := c.second, net := c.net, number := number, closeTime := s.service.clock
        charge := amount, adjusted := c.adjusted, target := c.target
        mark := if c.target = none then .notRequired else .unprinted, attempts := 0, collected := false }
    let setsTare := v.direction = .deliver ∧ v.onePass = false ∧ c.adjusted = false ∧ c.second.origin = .deck
    let t := s.closeRecord n v c
    t.slot n = ⟨(s.slot n).revision + 1, some { v with state := .closed ticket }⟩ ∧
    (∀ m, m ≠ n → t.slot m = s.slot m) ∧
    t.register.nextTicket = (if number = 99999999 then 1 else number + 1) ∧ t.register.cursor = s.register.cursor ∧
    (∀ a, t.account a = (s.account a).map fun x =>
      if v.account = some a then
        { x with
          balance := debited x
          state := if x.state = .active ∧ debited x ≤ x.floor then .stoppedAuto else x.state
          count := if c.fromOpen = true then x.count - 1 else x.count }
      else x) ∧
    (∀ e g, v.tag = some g → s.vehicle g = some e → setsTare → e.autoTare = true →
      t.vehicle g = some { e with
        tare := some ⟨c.second.weight.toNat, s.service.clock.toNat / 86400, c.second.deck⟩ }) ∧
    (¬ (setsTare ∧ ∃ e g, v.tag = some g ∧ s.vehicle g = some e ∧ e.autoTare = true) → t.vehicles = s.vehicles) ∧
    (∀ g', v.tag ≠ some g' → t.vehicle g' = s.vehicle g') ∧
    (∀ l, s.notices[13]? = some l → l.enable = true → t.notices[13]? = some { l with detail := some (.slot n) }) ∧
    (∀ l a x, s.notices[10]? = some l → l.enable = true → v.account = some a → s.account a = some x →
      x.state = .active → debited x ≤ x.floor → t.notices[10]? = some { l with detail := some (.account a) }) ∧
    ((∀ a x, v.account = some a → s.account a = some x → ¬ (x.state = .active ∧ debited x ≤ x.floor)) →
      t.notices[10]? = s.notices[10]?) ∧
    (∀ i, i ≠ 13 → i ≠ 10 → t.notices[i]? = s.notices[i]?) ∧
    t.decks = s.decks ∧ t.gates = s.gates ∧ t.kinds = s.kinds ∧ t.printing = s.printing ∧ t.link = s.link ∧
    t.emergency = s.emergency ∧ t.service = s.service ∧ t.now = s.now ∧ t.powered = s.powered ∧ t.pending = s.pending ∧
    t.port = s.port

/-- R49, R64: the number a close assigns is the first one from the counter on, 1 following 99,999,999, that no CLOSED visit
holds; with a slot that is not CLOSED there is one. SET_TICKET_NEXT, examined in its order, sets the counter. -/
def Obligations.TicketCounterGivesFreeNumbers : Prop :=
  (∀ (s : State) (n : Nat), s.register.slots.length = 128 → n < 128 → (∀ v, s.visit n = some v → v.isClosed = false) →
     let held (k : Nat) : Prop := ∃ i v t, s.visit i = some v ∧ v.ticket = some t ∧ t.number = k
     let following (k : Nat) : Nat := if k = 99999999 then 1 else k + 1
     ∃ steps, steps < 128 ∧ s.ticketNumber = following^[steps] s.register.nextTicket ∧ ¬ held s.ticketNumber ∧
       ∀ j, j < steps → held (following^[j] s.register.nextTicket)) ∧
  ∀ (s : State) (number : BitVec 32), s.listening →
    let bad := ¬ (1 ≤ number.toNat ∧ number.toNat ≤ 99999999)
    let holds := ∃ n v, s.visit n = some v ∧ v.isClosed = true
    (bad → exec (.setTicketNext number) s = .next (s.answered Code.setTicketNext .outOfRange)) ∧
    (¬ bad → holds → exec (.setTicketNext number) s = .next (s.answered Code.setTicketNext .wrongState)) ∧
    (¬ bad → ¬ holds → exec (.setTicketNext number) s = .next (State.answered
      { s with register := { s.register with nextTicket := number.toNat } } Code.setTicketNext .done))

/-! ### Vehicles, Accounts and Waste Kinds -/

/-- R69, R70: PUT_VEHICLE, examined in its order, and the entry it writes. -/
def Obligations.PutVehicleWritesTheEntry : Prop :=
  ∀ (s : State) (b : VehicleBody), s.listening →
    let e := exec (.putVehicle b) s
    let badFields := b.tag = 0 ∨ plateOf b.plate = none ∨ b.account = 0 ∨ ¬ (1 ≤ b.kind.toNat ∧ b.kind.toNat ≤ 32) ∨
      ¬ (b.direction = 1 ∨ b.direction = 2) ∨ ¬ (b.state = 1 ∨ b.state = 2) ∨ ¬ (b.autoTare = 0 ∨ b.autoTare = 1) ∨
      ¬ (b.tareMode = 1 ∨ b.tareMode = 2 ∨ b.tareMode = 3) ∨ ¬ (1 ≤ b.validity.toNat ∧ b.validity.toNat ≤ 365)
    let badTare := b.tareMode = 2 ∧ ¬ (0 ≤ b.tareWeight.toInt ∧ b.tareWeight.toInt ≤ 200000 ∧ b.tareDay.toNat ≤ 49710 ∧
      (b.tareDeck = 1 ∨ b.tareDeck = 2))
    (badFields ∨ badTare → e = .next (s.answered Code.putVehicle .outOfRange)) ∧
    ∀ plate, plateOf b.plate = some plate → ¬ badFields → ¬ badTare →
      let taken := ∃ v ∈ s.vehicles, v.plate = plate ∧ v.tag ≠ b.tag
      let full := s.vehicle b.tag = none ∧ 512 ≤ s.vehicles.length
      let entry : Vehicle :=
        { tag := b.tag, plate := plate, account := b.account, kind := b.kind.toNat
          direction := if b.direction = 1 then .deliver else .collect, barred := decide (b.state = 2)
          autoTare := decide (b.autoTare = 1), validity := b.validity.toNat
          tare := if b.tareMode = 1 then (s.vehicle b.tag).bind fun v => v.tare
            else if b.tareMode = 2 then
              some ⟨b.tareWeight.toInt.toNat, b.tareDay.toNat, if b.tareDeck = 1 then .d1 else .d2⟩
            else none }
      (taken → e = .next (s.answered Code.putVehicle .conflict)) ∧
      (¬ taken → full → e = .next (s.answered Code.putVehicle .full)) ∧
      (¬ taken → ¬ full →
        e = .next ((s.putVehicle entry).answered Code.putVehicle .done) ∧
        (s.putVehicle entry).vehicle b.tag = some entry ∧
        ∀ g, g ≠ b.tag → (s.putVehicle entry).vehicle g = s.vehicle g)

/-- R72, R73: DROP_VEHICLE removes the entry; SET_TARE_FROM_DECK, examined in its order, stores the deck's weight. -/
def Obligations.VehicleEntriesDropAndTare : Prop :=
  ∀ (s : State) (tag : Tag), s.listening →
    exec (.dropVehicle tag) s = .next (
      if tag = 0 then s.answered Code.dropVehicle .outOfRange
      else if s.vehicle tag = none then s.answered Code.dropVehicle .notFound
      else State.answered { s with vehicles := s.vehicles.filter fun v => v.tag != tag } Code.dropVehicle .done) ∧
    ∀ b, exec (.setTareFromDeck tag b) s = .next (
      match deckOf b with
      | none => s.answered Code.setTareFromDeck .outOfRange
      | some d =>
        let k := s.deck d
        let u := k.unit.reading
        let tare : Tare := ⟨u.weight.toNat, s.service.clock.toNat / 86400, d⟩
        if tag = 0 then s.answered Code.setTareFromDeck .outOfRange
        else match s.vehicle tag with
          | none => s.answered Code.setTareFromDeck .notFound
          | some v =>
            if u.availability ≠ .ready then s.answered Code.setTareFromDeck .deckUnavailable
            else if k.session ≠ none then s.answered Code.setTareFromDeck .wrongState
            else if k.stable = false ∨ u.current = false then s.answered Code.setTareFromDeck .wrongState
            else if k.loaded = false ∨ k.withinMax = false then s.answered Code.setTareFromDeck .wrongState
            else (s.putVehicle { v with tare := some tare }).answered Code.setTareFromDeck .done (.tare tare))

/-- R76 to R81: PUT_ACCOUNT creates an account or changes the floor and limit of one, with the limit clamped; CREDIT, STOP,
RELEASE and DROP_ACCOUNT. -/
def Obligations.AccountRequests : Prop :=
  (∀ (s : State) (n : AccountNo) (opening floor : BitVec 32) (limit : Byte), s.listening →
     let l := max 1 (min 32 limit.toNat)
     let adjusted := decide (limit.toNat < 1 ∨ 32 < limit.toNat)
     exec (.putAccount n opening floor limit) s = .next (
       if n = 0 then s.answered Code.putAccount .outOfRange
       else match s.account n with
         | some a =>
           let a' : Account := { a with
             floor := floor.toInt, limit := l
             state := match a.state with
               | .stoppedHold => .stoppedHold
               | _ => if floor.toInt < a.balance then .active else .stoppedAuto }
           (s.putAccount a').answered Code.putAccount .done (.account a') adjusted
         | none =>
           if 64 ≤ s.accounts.length then s.answered Code.putAccount .full
           else
             let a' : Account := { number := n, balance := opening.toInt, floor := floor.toInt, limit := l, count := 0
                                   state := if floor.toInt < opening.toInt then .active else .stoppedAuto }
             (s.putAccount a').answered Code.putAccount .done (.account a') adjusted)) ∧
  ∀ (s : State) (n : AccountNo), s.listening →
    let on (kind : Byte) (own : Account → State) : State :=
      if n = 0 then s.answered kind .outOfRange
      else match s.account n with
        | none => s.answered kind .notFound
        | some a => own a
    (∀ amount : BitVec 32, exec (.credit n amount) s = .next (on Code.credit fun a =>
      let balance := max (-2147483648) (min 2147483647 (a.balance + amount.toInt))
      let a' : Account := if amount = 0 then a else { a with
        balance := balance
        state := match a.state with
          | .stoppedHold => .stoppedHold
          | .active => if balance ≤ a.floor then .stoppedAuto else .active
          | .stoppedAuto => if a.floor < balance then .active else .stoppedAuto }
      (if a.state = .active ∧ a'.state = .stoppedAuto then
          (s.putAccount a').raise .accountStopped (.account a.number)
        else s.putAccount a').answered Code.credit .done (.account a'))) ∧
    exec (.stop n) s = .next (on Code.stop fun a =>
      (s.putAccount { a with state := .stoppedHold }).answered Code.stop .done
        (.account { a with state := .stoppedHold })) ∧
    exec (.release n) s = .next (on Code.release fun a =>
      let a' : Account := { a with state := if a.floor < a.balance then .active else .stoppedAuto }
      if a.state = .stoppedHold then (s.putAccount a').answered Code.release .done (.account a')
      else s.answered Code.release .wrongState) ∧
    exec (.dropAccount n) s = .next (on Code.dropAccount fun a =>
      if 0 < a.count then s.answered Code.dropAccount .wrongState
      else if s.register.slots.any (fun sl => sl.visit.any fun v => !v.isOpen && v.account == some a.number) = true then
        s.answered Code.dropAccount .wrongState
      else State.answered { s with accounts := s.accounts.filter fun x => x.number != a.number }
        Code.dropAccount .done)

/-- R84, R86: PUT_KIND replaces one kind whole; the charge of a net is the larger of the minimum and the product with the
rate, rounded half up to the minor unit. -/
def Obligations.KindsAndCharges : Prop :=
  (∀ (s : State) (code accepted directions : Byte) (rate minimum : BitVec 32), s.listening →
    exec (.putKind code accepted directions rate minimum) s = .next (
      if 1 ≤ code.toNat ∧ code.toNat ≤ 32 ∧ (accepted = 0 ∨ accepted = 1) ∧
          (directions = 1 ∨ directions = 2 ∨ directions = 3) ∧ rate.toNat ≤ 10000000 ∧ minimum.toNat ≤ 1000000 then
        let k : Kind := {
          accepted := decide (accepted = 1)
          directions := if directions = 1 then .deliver else if directions = 2 then .collect else .both
          rate := rate.toNat, minimum := minimum.toNat }
        State.answered { s with kinds := s.kinds.set (code.toNat - 1) k } Code.putKind .done
      else s.answered Code.putKind .outOfRange)) ∧
  ∀ (k : Kind) (net : Nat),
    k.minimum ≤ charge k net ∧ net * k.rate + 500 < 1000 * (charge k net + 1) ∧
      (charge k net = k.minimum ∨ 1000 * charge k net ≤ net * k.rate + 500)

/-! ### Gates -/

/-- R91, R132, R151: SET_GATE, SET_DECK_TIMERS and SET_PRINT write their settings, each clamped to its range, and mark the
answer adjusted when a value was clamped. -/
def Obligations.SettingsAreClamped : Prop :=
  ∀ s : State, s.listening →
    let inside (lo hi v : Nat) : Nat := if v < lo then lo else if hi < v then hi else v
    (∀ b w d t, exec (.setGate b w d t) s = .next (
      match gateOf b with
      | none => s.answered Code.setGate .outOfRange
      | some g =>
        (s.setGate g { s.gate g with warnTime := inside 0 20 w.toNat, driveLimit := inside 1 30 d.toNat
                                     settleTime := inside 0 10 t.toNat }).answered Code.setGate .done
          (.gateTimes (inside 0 20 w.toNat) (inside 1 30 d.toNat) (inside 0 10 t.toNat))
          (decide (20 < w.toNat ∨ d.toNat < 1 ∨ 30 < d.toNat ∨ 10 < t.toNat)))) ∧
    (∀ b x c w, exec (.setDeckTimers b x c w) s = .next (
      match deckOf b with
      | none => s.answered Code.setDeckTimers .outOfRange
      | some d =>
        let times : DeckTimes := ⟨inside 10 300 x.toNat, inside 10 600 c.toNat, inside 5 300 w.toNat⟩
        (s.setDeck d { s.deck d with times := times }).answered Code.setDeckTimers .done (.deckTimes times)
          (decide (x.toNat < 10 ∨ 300 < x.toNat ∨ c.toNat < 10 ∨ 600 < c.toNat ∨ w.toNat < 5 ∨ 300 < w.toNat)))) ∧
    ∀ u b h c, exec (.setPrint u b h c) s = .next (
      let times : PrintTimes := ⟨inside 1 8 u.toNat, inside 1 16 b.toNat, inside 0 8 h.toNat, inside 5 60 c.toNat⟩
      State.answered { s with printing := { s.printing with times := times } } Code.setPrint .done (.printTimes times)
        (decide (u.toNat < 1 ∨ 8 < u.toNat ∨ b.toNat < 1 ∨ 16 < b.toNat ∨ 8 < h.toNat ∨ c.toNat < 5 ∨ 60 < c.toNat)))

/-- R93 to R95: what a raise request and a lower request do in each barrier state, with the phase a motion begins in. -/
def Obligations.RequestsMoveTheBarrier : Prop :=
  ∀ (g : Gate) (now : Nat) (o : Origin),
    let raisingDrive : Barrier :=
      if g.upSwitch = false then .raising .drive o (now + g.driveLimit * 1000000) false
      else if g.settleTime ≠ 0 then .raising .settle o (now + g.settleTime * 500000) false
      else .up
    let raising : Barrier :=
      if g.warnTime ≠ 0 then .raising .warn o (now + g.warnTime * 500000) false else raisingDrive
    let lowering : Barrier :=
      if g.warnTime ≠ 0 then .lowering .warn o (now + g.warnTime * 500000)
      else if g.downSwitch = false then .lowering .drive o (now + g.driveLimit * 1000000)
      else if g.settleTime ≠ 0 then .lowering .settle o (now + g.settleTime * 500000)
      else .down
    let noLower : Option MoveRequest := if (g.request.any fun r => r.kind == .lower) = true then none else g.request
    let noRaise : Option MoveRequest := if (g.request.any fun r => r.kind == .raise) = true then none else g.request
    g.raiseRequest now o = (match g.barrier with
      | .down => if o = .session ∧ g.locked = true then { g with request := some ⟨.raise, o⟩ }
          else { g with request := none, barrier := raising }
      | .raising _ _ _ _ | .up => { g with request := noLower }
      | .lowering _ _ _ => { g with request := none, barrier := raisingDrive }
      | .forced => g
      | .fault => { g with request := some ⟨.raise, o⟩ }) ∧
    g.lowerRequest now o = (match g.barrier with
      | .down => { g with request := noRaise }
      | .raising _ _ _ forced => if forced = true then g else { g with request := some ⟨.lower, o⟩ }
      | .up => if g.occupied = true then { g with request := some ⟨.lower, o⟩ }
          else { g with request := none, barrier := lowering }
      | .lowering _ _ _ | .forced => g
      | .fault => { g with request := some ⟨.lower, o⟩ })

/-- R102, R104, R118: LOCK and UNLOCK: UNLOCK starts a raise that the lock held, and the deck is offered the gate's waiting
call; a gate already UNLOCKED is left alone. RAISE and LOWER, examined in their order: accepted, the barrier takes the
request with origin HOST. -/
def Obligations.HostGateRequests : Prop :=
  (∀ (s : State) (b : Byte), s.listening →
     exec (.lock b) s = .next (
       match gateOf b with
       | none => s.answered Code.lock .outOfRange
       | some g => (s.setGate g { s.gate g with locked := true }).answered Code.lock .done) ∧
     exec (.unlock b) s = .next (
       match gateOf b with
       | none => s.answered Code.unlock .outOfRange
       | some g =>
         let k := { s.gate g with locked := false }
         let opened : Gate :=
           if (s.gate g).barrier = .down ∧ (s.gate g).request = some ⟨.raise, .session⟩ then
             { k with request := none }.raiseRequest s.now .session
           else k
         if (s.gate g).locked = false then s.answered Code.unlock .done
         else if (s.gate g).waiting = none then (s.setGate g opened).answered Code.unlock .done
         else ((s.setGate g opened).offer g.deck).answered Code.unlock .done)) ∧
  ∀ (s : State) (b : Byte), s.listening →
    let barred (g : GateId) : Prop := s.emergency.latch = true ∨ s.service.quiet = true ∨
      (s.deck g.deck).session ≠ none ∨ (s.gate g).barrier = .fault ∨ (s.gate g).barrier = .forced
    exec (.raise b) s = .next (
      match gateOf b with
      | none => s.answered Code.raise .outOfRange
      | some g =>
        let k := (s.gate g).raiseRequest s.now .host
        if barred g then s.answered Code.raise .wrongState
        else (s.setGate g k).answered Code.raise .done (.motion k.barrier k.request)) ∧
    exec (.lower b) s = .next (
      match gateOf b with
      | none => s.answered Code.lower .outOfRange
      | some g =>
        let k := (s.gate g).lowerRequest s.now .host
        if barred g then s.answered Code.lower .wrongState
        else (s.setGate g k).answered Code.lower .done (.motion k.barrier k.request))

/-- R93, R100, R124, R129: a change of a gate's channel reports BARRIER_FAULT where the barrier enters FAULT, and, where
the barrier state has changed, the deck's session tests its capture conditions in ON_DECK and its completion in CLEARING
at its release gate; nothing else follows. -/
def Obligations.BarrierChangesAreHandedOn : Prop :=
  ∀ (s : State) (g : GateId) (k : Gate),
    let before := (s.gate g).barrier
    let changed := match before, k.barrier with
      | .down, .down | .up, .up | .forced, .forced | .fault, .fault | .raising _ _ _ _, .raising _ _ _ _
      | .lowering _ _ _, .lowering _ _ _ => false
      | _, _ => true
    let t : State :=
      if k.barrier = .fault ∧ before ≠ .fault then (s.setGate g k).raise .barrierFault (.gate g) else s.setGate g k
    (s.gateEvent g fun _ => k) = (
      if changed = false then t
      else match (s.deck g.deck).session with
        | none => t
        | some v =>
          if v.stage = .onDeck ∧ t.capturable g.deck = true then
            t.captureInto g.deck v ⟨(t.deck g.deck).unit.reading.weight, g.deck, t.service.clock, .deck⟩
          else if v.stage = .clearing ∧ g.deck.gate v.releaseEnd = g then t.clearingTest g.deck v
          else t)

/-- R101, R105: RESET_GATE, examined in its order; a FAULT barrier with exactly one switch ACTIVE takes that rest, or
with the latch set completes the forced raise, and its pending request acts there. The change is handed on, and the answer
carries the barrier after all that follows in the event. -/
def Obligations.ResetGateRestoresTheBarrier : Prop :=
  ∀ (s : State) (b : Byte), s.listening → exec (.resetGate b) s = .next (
    match gateOf b with
    | none => s.answered Code.resetGate .outOfRange
    | some g =>
      let k := s.gate g
      let rest := { k with request := none, barrier := if k.upSwitch = true then .up else .down }
      let restored : Gate :=
        if s.emergency.latch = true then
          { k with request := none
                   barrier := if k.upSwitch = true then .forced
                     else .raising .drive .emergency (s.now + k.driveLimit * 1000000) true }
        else match k.request with
          | none => rest
          | some r =>
            if k.upSwitch = true then (if r.kind = .lower then rest.lowerRequest s.now r.origin else rest)
            else (if r.kind = .raise then rest.raiseRequest s.now r.origin else rest)
      if k.barrier ≠ .fault then s.answered Code.resetGate .wrongState
      else if k.upSwitch = k.downSwitch then s.answered Code.resetGate .wrongState
      else
        let t := s.gateEvent g fun _ => restored
        t.answered Code.resetGate .done (.barrier (t.gate g).barrier))

/-- R93, R96, R97, R100: the lapse of the warn timer begins DRIVE, that of the drive limit faults the barrier with its
own request pending unless one of the other kind is, and that of the settle timer brings it to its rest, where a pending
LOWER is performed once the loop is CLEAR. -/
def Obligations.PhaseTimersMoveTheBarrier : Prop :=
  ∀ (s : State) (g : GateId) (due : Nat), s.powered = true →
    let k := s.gate g
    let now := max s.now due
    let s' : State := { s with now := now }
    let driven (o : Origin) (f : Bool) : Barrier :=
      if k.upSwitch = false then .raising .drive o (now + k.driveLimit * 1000000) f
      else if f = true then .forced
      else if k.settleTime ≠ 0 then .raising .settle o (now + k.settleTime * 500000) false
      else .up
    let rest : Gate := match k.request with
      | some r => if r.kind = .lower ∧ k.occupied = false then
          { k with request := none, barrier := .up }.lowerRequest now r.origin else { k with barrier := .up }
      | none => { k with barrier := .up }
    (∀ o f, k.barrier = .raising .warn o due f → (k.upSwitch = false ∨ k.settleTime ≠ 0 ∨ f = true) →
      exec (.warnTimeLapse g) s = .next (s'.gateEvent g fun _ => { k with barrier := driven o f })) ∧
    (∀ o, k.barrier = .lowering .warn o due →
      exec (.warnTimeLapse g) s = .next (s'.gateEvent g fun _ =>
        if k.downSwitch = false then { k with barrier := .lowering .drive o (now + k.driveLimit * 1000000) }
        else if k.settleTime ≠ 0 then { k with barrier := .lowering .settle o (now + k.settleTime * 500000) }
        else { k with barrier := .down, request := none })) ∧
    (∀ o f, k.barrier = .raising .drive o due f →
      exec (.driveLimitLapse g) s = .next (s'.gateEvent g fun _ => { k with barrier := .fault, request :=
        if f = true ∨ (k.request.any fun r => r.kind == .lower) = true then k.request else some ⟨.raise, o⟩ })) ∧
    (∀ o, k.barrier = .lowering .drive o due →
      exec (.driveLimitLapse g) s = .next (s'.gateEvent g fun _ => { k with barrier := .fault, request :=
        if (k.request.any fun r => r.kind == .raise) = true then k.request else some ⟨.lower, o⟩ })) ∧
    (∀ o f, k.barrier = .raising .settle o due f →
      exec (.settleTimeLapse g) s = .next (s'.gateEvent g fun _ => rest)) ∧
    (∀ o, k.barrier = .lowering .settle o due →
      exec (.settleTimeLapse g) s = .next (s'.gateEvent g fun _ => { k with barrier := .down, request := none }))

/-- R93, R100, R105: a change of a limit switch. One that contradicts the barrier's state puts it into FAULT; the target
switch of a DRIVE begins SETTLE, or FORCED in a forced DRIVE, and with a settle time of 0 the motion ends at once, where UP
examines its pending request (R97); any other is recorded. That a level already there changes nothing is the model's choice
(log 4). -/
def Obligations.LimitSwitchesEndOrFaultAMotion : Prop :=
  ∀ (s : State) (g : GateId) (w : LimitSwitch) (active : Bool), s.powered = true →
    let k := s.gate g
    let up := match w with
      | .up => active
      | .down => k.upSwitch
    let down := match w with
      | .up => k.downSwitch
      | .down => active
    let k' : Gate := { k with upSwitch := up, downSwitch := down }
    let faulty := match k.barrier with
      | .down | .raising .warn _ _ _ | .lowering .settle _ _ => down = false ∧ w = .down ∨ up = true ∧ down = true
      | .up | .forced | .lowering .warn _ _ | .raising .settle _ _ _ => up = false ∧ w = .up ∨ up = true ∧ down = true
      | .raising .drive _ _ _ | .lowering .drive _ _ => up = true ∧ down = true
      | .fault => False
    let pending : Option MoveRequest := match k.barrier with
      | .raising _ o _ false =>
        if (k.request.any fun r => r.kind == .lower) = true then k.request else some ⟨.raise, o⟩
      | .lowering _ o _ => if (k.request.any fun r => r.kind == .raise) = true then k.request else some ⟨.lower, o⟩
      | _ => k.request
    let e := exec (.limitSwitchChange g w active) s
    let unchanged := (match w with
      | .up => k.upSwitch
      | .down => k.downSwitch) = active
    (unchanged → e = .next s) ∧
    (¬ unchanged → faulty → e = .next (s.gateEvent g fun _ => { k' with barrier := .fault, request := pending })) ∧
    (¬ unchanged → ¬ faulty → ∀ o due f, k.barrier = .raising .drive o due f → w = .up → active = true →
      (f = true → e = .next (s.gateEvent g fun _ => { k' with barrier := .forced })) ∧
      (f = false → k.settleTime ≠ 0 → e = .next (s.gateEvent g fun _ =>
        { k' with barrier := .raising .settle o (s.now + k.settleTime * 500000) false })) ∧
      (f = false → k.settleTime = 0 → e = .next (s.gateEvent g fun _ => match k.request with
        | some q => if q.kind = .lower ∧ k.occupied = false then
            { k' with request := none, barrier := .up }.lowerRequest s.now q.origin else { k' with barrier := .up }
        | none => { k' with barrier := .up }))) ∧
    (¬ unchanged → ¬ faulty → ∀ o due, k.barrier = .lowering .drive o due → w = .down → active = true →
      e = .next (s.gateEvent g fun _ =>
        if k.settleTime ≠ 0 then { k' with barrier := .lowering .settle o (s.now + k.settleTime * 500000) }
        else { k' with barrier := .down, request := none })) ∧
    (¬ unchanged → ¬ faulty → (∀ o due f, k.barrier = .raising .drive o due f → w = .up → active = false) →
      (∀ o due, k.barrier = .lowering .drive o due → w = .down → active = false) →
      e = .next (s.gateEvent g fun _ => k'))

/-- R97 to R99, R147: a change of a loop state. The loop guard abandons a lowering in WARN or DRIVE, and a pending LOWER
begins at UP when the loop clears; the session takes the change, and in quiet running an occupied loop wakes the yard (the
wake stands in QuietSleepsAndWakeWarms). That a loop state already there changes nothing is the model's choice (log 4). -/
def Obligations.LoopChangesGuardTheBarrier : Prop :=
  ∀ (s : State) (g : GateId) (occupied : Bool), s.powered = true →
    let k := s.gate g
    let guarded (o : Origin) : Gate := { k with
      occupied := true, request := some ⟨.lower, o⟩
      barrier := if k.upSwitch = false then .raising .drive o (s.now + k.driveLimit * 1000000) false
        else if k.settleTime ≠ 0 then .raising .settle o (s.now + k.settleTime * 500000) false
        else .up }
    let k' : Gate := match k.barrier, occupied with
      | .lowering .warn o _, true => guarded o
      | .lowering .drive o _, true => guarded o
      | .up, false => match k.request with
        | some r => if r.kind = .lower then { k with occupied := false, request := none }.lowerRequest s.now r.origin
            else { k with occupied := false }
        | none => { k with occupied := false }
      | _, _ => { k with occupied := occupied }
    let t := (s.gateEvent g fun _ => k').sessionLoop g occupied
    exec (.loopStateChange g occupied) s = .next (
      if k.occupied = occupied then s
      else if occupied = true ∧ t.service.loopWake = true ∧ t.service.quiet = true then t.wakeYard (.loop g)
      else t)

/-- R109, R110, R147, R188, R189: a reader frame is six bytes that begin with 02h, sum to 0 and carry a tag other than 0;
malformed it is counted, repeated within 3.0 s it is dropped, else it is remembered and becomes a call, in quiet running
after the wake (as QuietSleepsAndWakeWarms states it) or not at all. -/
def Obligations.TagFramesBecomeCalls : Prop :=
  (∀ (f : List Byte) (t : Tag), tagFrameOf f = some t ↔
    ∃ b1 b2 b3 b4 check : Byte, f = [0x02, b1, b2, b3, b4, check] ∧ 0x02 + b1 + b2 + b3 + b4 + check = 0 ∧ t ≠ 0 ∧
      t.toNat = ((b1.toNat * 256 + b2.toNat) * 256 + b3.toNat) * 256 + b4.toNat) ∧
  ∀ (s : State) (g : GateId) (f : List Byte), s.powered = true →
    let k := s.gate g
    let e := exec (.tagFrame g f) s
    (tagFrameOf f = none → e = .next (s.setGate g { k with drops := min 255 (k.drops + 1) })) ∧
    ∀ t, tagFrameOf f = some t →
      let suppressed := ∃ m, k.memory = some m ∧ m.tag = t ∧ s.now < m.since + 3000000
      let s' := s.setGate g { k with memory := some ⟨t, s.now⟩ }
      (suppressed → e = .next s) ∧
      (¬ suppressed → s.service.quiet = false → e = .next (s'.arbitrateCall g (.tag t)).1) ∧
      (¬ suppressed → s.service.quiet = true → s.service.tagWake = false → e = .next s') ∧
      (¬ suppressed → s.service.quiet = true → s.service.tagWake = true →
        e = .next ((s'.wakeYard (.tag g)).arbitrateCall g (.tag t)).1)

/-- R92, R103: the outputs of a gate channel. The light is GREEN only while the barrier is UP or FORCED, and the two
motors are never on together. -/
def Obligations.OutputsFollowTheBarrier : Prop :=
  ∀ g : Gate,
    (g.green = true ↔ (g.barrier = .up ∧ g.pass = true) ∨ g.barrier = .forced) ∧
    (g.motorUp = true ↔ ∃ o due f, g.barrier = .raising .drive o due f) ∧
    (g.motorDown = true ↔ ∃ o due, g.barrier = .lowering .drive o due) ∧
    (g.beacon = true ↔ (∃ p o due f, g.barrier = .raising p o due f ∧ p ≠ .settle) ∨
      ∃ p o due, g.barrier = .lowering p o due ∧ p ≠ .settle) ∧
    ¬ (g.motorUp = true ∧ g.motorDown = true)


/-! ### Calls and sessions -/

/-- R114: CALL, examined in its order, and the answer to it; an examined call is the arbiter's. -/
def Obligations.CallsAreExamined : Prop :=
  ∀ (s : State) (b form : Byte) (key : List Byte) (account : AccountNo) (kind direction : Byte), s.listening →
    exec (.call b form key account kind direction) s = .next (
      match gateOf b with
      | none => s.answered Code.call .outOfRange
      | some g =>
        let read : Option CallForm :=
          if form = 1 then (keyTag key).map .tag
          else if form = 2 ∧ g.side = .road ∧ 1 ≤ kind.toNat ∧ kind.toNat ≤ 32 ∧ (direction = 1 ∨ direction = 2) then
            (plateOf key).map fun p => .plate p (if account = 0 then none else some account) kind.toNat
              (if direction = 1 then .deliver else .collect)
          else if form = 3 ∧ g.side = .yard ∧ (byteAt key 0).toNat < 128 then some (.slot (byteAt key 0).toNat)
          else none
        match read with
        | none => s.answered Code.call .outOfRange
        | some f =>
          if s.service.quiet = true then s.answered Code.call .wrongState
          else match s.arbitrateCall g f with
            | (t, .taken n) => t.answered Code.call .done (.taken n)
            | (t, .waits) => t.answered Code.call .done .waiting
            | (t, .unavailable) => t.answered Code.call .deckUnavailable (.reason .deckUnavailable)
            | (t, .refused r) => t.answered Code.call .refused (.reason r))

/-- R45, R46, R115, R116, R119 to R121: what the arbiter of a deck decides of a call, and what becomes of it: refused,
held at its gate, or taken with its visit opened or departed and the session set up. -/
def Obligations.ArbiterDecidesCalls : Prop :=
  ∀ (s : State) (g : GateId) (f : CallForm),
    let d := g.deck
    let k := s.deck d
    let x := s.gate g
    let barred := s.emergency.latch = true ∨ k.unit.reading.availability = .fault ∨
      k.unit.reading.availability = .uncalibrated
    let held := k.session ≠ none ∨ x.locked = true ∨ k.unit.reading.availability = .warming ∨
      k.unit.reading.availability = .asleep ∨ k.loaded = true
    let refuse (r : CallReason) (y : Decision) : State × Decision := (s.raise .callRefused (.refusal g r), y)
    let due := s.now + k.times.callWait * 1000000
    let same (a : CallForm) : Bool := match a, f with
      | .tag t, .tag u => t == u
      | .plate p _ _ _, .plate q _ _ _ => p == q
      | .slot m, .slot n => m == n
      | _, _ => false
    let waiting : WaitingCall := match x.waiting with
      | some c => if same c.form = true then { c with due := due } else ⟨f, s.now / 1000, due⟩
      | none => ⟨f, s.now / 1000, due⟩
    let anyOpen (p : Visit → Bool) : Bool := s.register.slots.any fun sl => sl.visit.any fun v => v.isOpen && p v
    let setUp (t : State) (h : Heading) (a b : GateEnd) (n : Nat) : State :=
      (t.setGate g ({ x with pass := true }.raiseRequest s.now .session)).setDeck d { k with session := some {
        stage := if x.occupied = true then .boarding else .called, heading := h, entryEnd := a, releaseEnd := b, slot := n
        outcome := .pending, accepted := s.service.clock
        boardDue := if x.occupied = true then none else some (s.now + k.times.boardTime * 1000000)
        captureDue := none, clearMark := false, waiver := false } }
    let enter (bar : Bool) (o : Opening) : State × Decision :=
      let code := s.kind o.kind
      let visit : Visit := { tag := o.tag, plate := o.plate, account := o.account, kind := o.kind, direction := o.direction
                             opened := s.service.clock, onePass := false, overStay := false, state := .arriving d }
      let stopped : Option CallReason := match o.account with
        | none => none
        | some a => match s.account a with
          | none => some .accountStopped
          | some y => if y.state ≠ .active then some .accountStopped
            else if y.limit ≤ y.count then some .accountLimit else none
      if bar = true then refuse .vehicleBarred (.refused .vehicleBarred)
      else if ¬ (code.accepted = true ∧ code.allows o.direction = true) then refuse .kindClosed (.refused .kindClosed)
      else match stopped with
      | some r => refuse r (.refused r)
      | none => match s.register.slots.findIdx? fun sl => sl.visit.isNone with
        | none => refuse .yardFull (.refused .yardFull)
        | some n =>
          let u : State := { s with
            register := { s.register with slots := s.register.slots.set n ⟨(s.slot n).revision + 1, some visit⟩ }
            accounts := s.accounts.map fun a => if o.account = some a.number then { a with count := a.count + 1 } else a }
          let t := if (s.register.slots.countP fun sl => sl.visit.isNone) = 9 then
            u.raise .yardNearlyFull (.freeCount 8) else u
          (setUp t .inbound .road .yard n, .taken n)
    let leave (n : Nat) : State × Decision := match s.visit n with
      | none => refuse .noVisit (.refused .noVisit)
      | some v => match v.state with
        | .onSite w =>
          let u : State := { s with register := { s.register with
            slots := s.register.slots.set n ⟨(s.slot n).revision + 1, some { v with state := .departing d w }⟩ } }
          (setUp u .outbound .yard .road n, .taken n)
        | .arriving _ | .departing _ _ => refuse .visitBusy (.refused .visitBusy)
        | _ => refuse .noVisit (.refused .noVisit)
    (barred → s.arbitrateCall g f = refuse .deckUnavailable .unavailable) ∧
    (¬ barred → held → s.arbitrateCall g f = (s.setGate g { x with waiting := some waiting }, .waits)) ∧
    (¬ barred → ¬ held → x.barrier = .fault → s.arbitrateCall g f = refuse .deckUnavailable .unavailable) ∧
    (¬ barred → ¬ held → x.barrier ≠ .fault →
      (∀ t, g.side = .road → f = .tag t → s.arbitrateCall g f =
        match s.vehicle t with
        | none => refuse .unknownTag (.refused .unknownTag)
        | some e =>
          if anyOpen (fun v => v.tag == some t || v.plate == e.plate) = true then
            refuse .alreadyOnSite (.refused .alreadyOnSite)
          else enter e.barred ⟨some t, e.plate, some e.account, e.kind, e.direction⟩) ∧
      (∀ p a c dir, g.side = .road → f = .plate p a c dir → s.arbitrateCall g f =
        if anyOpen (fun v => v.plate == p) = true then refuse .alreadyOnSite (.refused .alreadyOnSite)
        else enter false ⟨none, p, a, c, dir⟩) ∧
      (∀ t, g.side = .yard → f = .tag t → s.arbitrateCall g f =
        match s.register.slots.findIdx? (fun sl => sl.visit.any fun v => v.isOpen && v.tag == some t) with
        | none => refuse .noVisit (.refused .noVisit)
        | some n => leave n) ∧
      ∀ n, g.side = .yard → f = .slot n → s.arbitrateCall g f = leave n)

/-- R116, R118: a wait timer's lapse drops its call with CALL_EXPIRED. An offer hands the waiting calls of an able deck
back to the arbiter, the older first and the road end first of two that arrived together, while the deck is able; a call
taken or refused leaves its gate. -/
def Obligations.WaitingCallsAreOffered : Prop :=
  (∀ (s : State) (g : GateId) (c : WaitingCall), s.powered = true → (s.gate g).waiting = some c →
    exec (.callWaitLapse g) s = .next
      (({ s with now := max s.now c.due }.setGate g { s.gate g with waiting := none }).raise .callExpired (.gate g))) ∧
  ∀ (s : State) (d : DeckId),
    let able (t : State) : Prop := t.emergency.latch = false ∧ (t.deck d).unit.reading.availability = .ready ∧
      (t.deck d).session = none ∧ (t.deck d).loaded = false
    let offered (t : State) (g : GateId) : State := match (t.gate g).waiting with
      | none => t
      | some c =>
        let a := t.arbitrateCall g c.form
        if a.2 = .waits then t else a.1.setGate g { a.1.gate g with waiting := none }
    let yardFirst := ∃ a b, (s.gate (d.gate .road)).waiting = some a ∧ (s.gate (d.gate .yard)).waiting = some b ∧
      b.stamp < a.stamp
    (¬ able s → s.offer d = s) ∧
    ∀ first second, (yardFirst → first = d.gate .yard ∧ second = d.gate .road) →
      (¬ yardFirst → first = d.gate .road ∧ second = d.gate .yard) → able s →
      let t := offered s first
      (able t → s.offer d = offered t second) ∧ (¬ able t → s.offer d = t)

/-- R46, R63, R122, R127 to R129: what the session's entries into ON_DECK, RELEASED, CLEARING and VACANT do to its gates
and its record, and what the undo does to its visit. -/
def Obligations.SessionEntriesActOnTheGates : Prop :=
  ∀ (s : State) (d : DeckId) (v : Serving),
    let k := s.deck d
    let a := d.gate v.entryEnd
    let r := d.gate v.releaseEnd
    let closed (g : GateId) : State := s.setGate g ({ s.gate g with pass := false }.lowerRequest s.now .session)
    s.enterOnDeck d v = (closed a).setDeck d { k with session := some { v with
      stage := .onDeck, clearMark := false, captureDue := some (s.now + k.times.captureTime * 1000000) } } ∧
    s.enterReleased d v = (s.setGate r ({ s.gate r with pass := true }.raiseRequest s.now .session)).setDeck d
      { k with session := some { v with stage := if (s.gate r).occupied = true then .leaving else .released
                                        clearMark := false, boardDue := none, captureDue := none } } ∧
    s.enterClearing d v = (closed r).setDeck d { k with session := some { v with
      stage := .clearing, clearMark := false, boardDue := none, captureDue := none } } ∧
    s.vacate d = ((s.setGate (d.gate .road) { s.gate (d.gate .road) with pass := false }).setGate (d.gate .yard)
      { s.gate (d.gate .yard) with pass := false }).setDeck d { k with session := none } ∧
    ∀ n u, s.visit n = some u →
      let late := u.overStay = false ∧ u.opened.toNat + s.service.maxStay * 3600 < s.service.clock.toNat
      (∀ e, u.state = .arriving e → s.undo n = { s with
        register := { s.register with slots := s.register.slots.set n ⟨(s.slot n).revision + 1, none⟩ }
        accounts := s.accounts.map fun x => if u.account = some x.number then { x with count := x.count - 1 } else x }) ∧
      (∀ e w, u.state = .departing e w → s.undo n =
        let t : State := { s with register := { s.register with
          slots := s.register.slots.set n ⟨(s.slot n).revision + 1,
            some { u with state := .onSite w, overStay := u.overStay || decide late }⟩ } }
        if late then t.raise .overStay (.slot n) else t)

/-- R43, R47, R48, R63, R125 to R127: MANUAL_CAPTURE, examined in its order; and what a capture does with the visit of its
slot: ON_SITE with its first weighing, or the close with the stored tare or the second weighing, to HELD or to CLOSED with
the ticket for the deck's printer; the vehicle is then released. That MANUAL_CAPTURE on a deck without a record is refused
with OUT_OF_RANGE is the model's choice (log 22). -/
def Obligations.CapturesSettleTheVisit : Prop :=
  (∀ (s : State) (b : Byte) (weight : BitVec 32), s.listening → exec (.manualCapture b weight) s = .next (
    match deckOf b with
    | none => s.answered Code.manualCapture .outOfRange
    | some d => match (s.deck d).session with
      | none => s.answered Code.manualCapture .wrongState
      | some v =>
        let w := weight.toInt
        let t := s.captureInto d v ⟨w, d, s.service.clock, .manual⟩
        if v.stage ≠ .onDeck then s.answered Code.manualCapture .wrongState
        else match (s.deck d).cal.record with
          | none => s.answered Code.manualCapture .outOfRange
          | some r =>
            if 0 ≤ w ∧ w ≤ r.max ∧ (r.division : Int) ∣ w then
              t.answered Code.manualCapture .done
                (.captured v.slot (s.capture v.slot d ⟨w, d, s.service.clock, .manual⟩).2)
            else s.answered Code.manualCapture .outOfRange)) ∧
  ∀ (s : State) (d : DeckId) (v : Serving) (w : Weighing) (u : Visit), s.visit v.slot = some u →
    let n := v.slot
    let today := s.service.clock.toNat / 86400
    let after (t : State) (o : VisitOutcome) : Prop :=
      s.capture n d w = (t, o) ∧ s.captureInto d v w = t.enterReleased d { v with outcome := o }
    let put (x : Visit) : State := { s with register := { s.register with
      slots := s.register.slots.set n ⟨(s.slot n).revision + 1, some x⟩ } }
    let finish (x : Visit) (a b : Weighing) : Prop :=
      let net := match x.direction with
        | .deliver => a.weight - b.weight
        | .collect => b.weight - a.weight
      let eMax : Int := max ((s.deck a.deck).division : Int) (s.deck b.deck).division
      let hold (why : HeldReason) : State := State.raise { put { x with state := .held a b net why } with
        accounts := s.accounts.map fun y => if u.account = some y.number then { y with count := y.count - 1 } else y }
        .visitHeld (.slot n)
      (net < 0 → after (hold .negativeNet) .held) ∧ (0 ≤ net → net < 20 * eMax → after (hold .lowNet) .held) ∧
      (20 * eMax ≤ net → after (s.closeRecord n x ⟨a, b, net, false, some d.printer, true⟩).serveBus .closed)
    let tare (x : Tare) : Prop := u.direction = .deliver ∧ ∃ g e, u.tag = some g ∧ s.vehicle g = some e ∧
      e.tare = some x ∧ x.day ≤ today ∧ today - x.day < e.validity
    (∀ e, u.state = .arriving e →
      (∀ x, tare x →
        finish { u with onePass := true } w ⟨x.weight, x.deck, BitVec.ofNat 32 (x.day * 86400), .stored⟩) ∧
      ((∀ x, ¬ tare x) →
        let late := u.overStay = false ∧ u.opened.toNat + s.service.maxStay * 3600 < s.service.clock.toNat
        let t := put { u with state := .onSite w, overStay := u.overStay || decide late }
        after (if late then t.raise .overStay (.slot n) else t) .onSite)) ∧
    ∀ e first, u.state = .departing e first → finish u first w

/-- R122, R123, R130, R131: CANCEL_SESSION by the session's state, the lapse of the board timer and the lapse of the
capture timer. That a waived session whose release barrier is DOWN already ends in the event of the cancel is the
model's reading (log 12). -/
def Obligations.SessionsAreCancelledOrTimeOut : Prop :=
  ∀ s : State,
    let turned (v : Serving) : Serving := { v with outcome := .undone, releaseEnd := v.entryEnd }
    let done (t : State) (x : Stage) : State := t.answered Code.cancelSession .done (.stage (some x))
    (s.listening → ∀ b, exec (.cancelSession b) s = .next (
      match deckOf b with
      | none => s.answered Code.cancelSession .outOfRange
      | some d =>
        let k := s.deck d
        match k.session with
        | none => s.answered Code.cancelSession .wrongState
        | some v =>
          let u := s.undo v.slot
          let a := d.gate v.entryEnd
          match v.stage with
          | .called => done (u.enterClearing d (turned v)) .clearing
          | .boarding => done ((u.setGate a { u.gate a with pass := false }).setDeck d { k with session := some {
              turned v with stage := .leaving, boardDue := none, captureDue := none } }) .leaving
          | .onDeck => done (u.enterReleased d (turned v)) (if (s.gate a).occupied = true then .leaving else .released)
          | _ =>
            if k.unit.reading.availability = .fault ∨ k.unit.reading.status ≠ .valid then
              let t := s.enterClearing d { v with waiver := true }
              if (t.gate (d.gate v.releaseEnd)).barrier = .down then
                ((t.vacate d).offer d).answered Code.cancelSession .done
                  (.stage ((((t.vacate d).offer d).deck d).session.map (·.stage)))
              else done t .clearing
            else s.answered Code.cancelSession .wrongState)) ∧
    ∀ d v due, s.powered = true → (s.deck d).session = some v →
      (v.stage = .called → v.boardDue = some due → exec (.boardTimerLapse d) s =
        .next ((State.undo { s with now := max s.now due } v.slot).enterClearing d (turned v))) ∧
      (v.stage = .onDeck → v.captureDue = some due → exec (.captureTimerLapse d) s =
        .next ((State.setDeck { s with now := max s.now due } d
          { s.deck d with session := some { v with captureDue := none } }).raise .captureTimeout (.deck d)))

/-- R122, R124, R127 to R129, R131: what a change of a loop and an evaluation do to the session of the deck, by its
state. That the evaluation that takes BOARDING to ON_DECK does not test the capture conditions as well is the model's
choice (log 33). That a waived session that leaves LEAVING with its release barrier DOWN already ends at once, and that
one without the waiver that becomes CLEARING is not tested in the same event, is the model's reading (log 12). -/
def Obligations.SessionsFollowLoopsAndWeights : Prop :=
  ∀ (s : State) (d : DeckId) (v : Serving), (s.deck d).session = some v →
    let k := s.deck d
    let put (x : Serving) : State := s.setDeck d { k with session := some x }
    let release := d.gate v.releaseEnd
    let noLoop := (s.gate (d.gate .road)).occupied = false ∧ (s.gate (d.gate .yard)).occupied = false
    let valid := k.unit.reading.status = .valid
    let still := ∃ r, k.cal.record = some r ∧ r.stableCount ≤ k.unit.reading.still ∧
      (r.threshold : Int) ≤ k.unit.reading.weight ∧ k.unit.reading.weight ≤ r.max
    let captures := k.unit.reading.availability = .ready ∧ valid ∧ k.unit.reading.current = true ∧ still ∧ noLoop ∧
      (s.gate (d.gate .road)).barrier = .down ∧ (s.gate (d.gate .yard)).barrier = .down
    let captured := s.captureInto d v ⟨k.unit.reading.weight, d, s.service.clock, .deck⟩
    let down := (s.gate release).barrier = .down
    let ends := down ∧ (v.waiver = true ∨ (valid ∧ k.loaded = false ∧ noLoop))
    let again := down ∧ v.waiver = false ∧ valid ∧ k.loaded = true
    let tested (t : State) : Prop :=
      (ends → t = (s.vacate d).offer d) ∧ (again → t = s.enterReleased d v) ∧ (¬ ends → ¬ again → t = s)
    (∀ g occupied, g.deck = d →
      let t := s.sessionLoop g occupied
      let mark := put { v with clearMark := !occupied }
      (v.stage = .called → t = if g = d.gate v.entryEnd ∧ occupied = true then
        put { v with stage := .boarding, clearMark := false, boardDue := none } else s) ∧
      (v.stage = .boarding → t = if g = d.gate v.entryEnd then mark else s) ∧
      (v.stage = .onDeck → (captures → t = captured) ∧ (¬ captures → t = s)) ∧
      (v.stage = .released → t = if g = release ∧ occupied = true then
        put { v with stage := .leaving, clearMark := false } else s) ∧
      (v.stage = .leaving → t = if g ≠ release then s
        else if occupied = true ∨ v.waiver = false then mark
        else let left := s.enterClearing d v
          if (left.gate release).barrier = .down then (left.vacate d).offer d else left) ∧
      (v.stage = .clearing → g = release → occupied = true → t = put { v with stage := .leaving, clearMark := false }) ∧
      (v.stage = .clearing → (g ≠ release ∨ occupied = false) → tested t)) ∧
    (let t := s.sessionEvaluation d
     (v.stage = .called ∨ v.stage = .released → t = s) ∧
     ((v.stage = .boarding ∨ v.stage = .leaving) → ¬ (valid ∧ v.clearMark = true) → t = s) ∧
     (v.stage = .boarding → valid → v.clearMark = true → t = if k.loaded = true then s.enterOnDeck d v
       else put { v with stage := .called, clearMark := false, boardDue := some (s.now + k.times.boardTime * 1000000) }) ∧
     (v.stage = .onDeck → (captures → t = captured) ∧ (¬ captures → t = s)) ∧
     (v.stage = .leaving → valid → v.clearMark = true →
       t = if k.loaded = true then s.enterReleased d v else s.enterClearing d v) ∧
     (v.stage = .clearing → tested t)) ∧
    (∀ g, g = release → v.stage = .clearing → tested (s.clearingTest d v))

/-! ### Emergency and quiet running -/

/-- R105, R106, R137 to R141: the edge of EMERG sets the latch, with the forced raise at every gate, both sessions ended with
their visits undone, no waiting call left, the wake and the notice; any other change of the level is recorded alone.
EMERGENCY_RELEASE, examined in its order, clears the latch, and every gate takes the release lowering. The laws of R113 and
R139 are premises: StepKeepsTheSessionDeck and StepKeepsTheLatchLaw state that every step keeps them. That a level already
there changes nothing is the model's choice (log 4), and what the release lowering does in a state R106 does not name is its
reading (log 17). -/
def Obligations.EmergencySetsAndReleases : Prop :=
  (∀ s : State, s.powered = true →
     (∀ active, (s.emergency.input = active → exec (.emergencyInputChange active) s = .next s) ∧
       (s.emergency.input ≠ active → (active = false ∨ s.emergency.latch = true) →
         exec (.emergencyInputChange active) s = .next { s with emergency := { s.emergency with input := active } })) ∧
     (s.emergency = ⟨false, false⟩ → SessionDeckLaw s →
       ∃ t, exec (.emergencyInputChange true) s = .next t ∧ t.emergency = ⟨true, true⟩ ∧
         (∀ g, let k := s.gate g
           let driven : Barrier :=
             if k.upSwitch = true then .forced else .raising .drive .emergency (s.now + k.driveLimit * 1000000) true
           t.gate g = { k with
             request := none, pass := false, waiting := none
             barrier := match k.barrier with
               | .raising .settle _ _ _ | .up | .forced => .forced
               | .fault => if k.upSwitch = true ∧ k.downSwitch = true then .fault else driven
               | _ => driven }) ∧
         (∀ d, (t.deck d).session = none ∧ (t.deck d).cal = (s.deck d).cal ∧ (t.deck d).times = (s.deck d).times) ∧
         (∀ n, (s.visit n = none → t.slot n = s.slot n) ∧ ∀ v, s.visit n = some v →
           (∀ d, v.state = .arriving d → t.slot n = ⟨(s.slot n).revision + 1, none⟩) ∧
           (∀ d w, v.state = .departing d w → t.slot n = ⟨(s.slot n).revision + 1, some { v with
             state := .onSite w
             overStay := v.overStay || decide (v.opened.toNat + s.service.maxStay * 3600 < s.service.clock.toNat) }⟩) ∧
           (v.sessionDeck = none → t.slot n = s.slot n)) ∧
         (s.service.quiet = false →
           (∀ d, t.deck d = { s.deck d with session := none }) ∧ t.service = s.service ∧ t.notices[14]? = s.notices[14]?) ∧
         (s.service.quiet = true → t.service = { s.service with quiet := false, wake := some .emergency } ∧
           (∀ d, let k := s.deck d
             t.deck d = if k.unit.reading.availability = .asleep then
                 { k with
                   session := none
                   cells := { k.cells with cycle := none }
                   unit := { zd := k.cal.zSet, refPresent := false, warmUp := some (s.now + 2000000)
                             ref := if k.unit.refPresent = true then k.unit.ref - (k.cal.zSet - k.unit.zd) else k.unit.ref
                             reading := { k.unit.reading with
                               availability := .warming, status := .noStatus, current := false, still := 0, track := 0 } } }
               else { k with session := none }) ∧
           ∀ l, s.notices[14]? = some l → l.enable = true → t.notices[14]? = some { l with detail := some (.wake .emergency) }) ∧
         (∀ l, s.notices[0]? = some l → l.enable = true → t.notices[0]? = some { l with detail := some .nothing }) ∧
         t.notices[7]? = s.notices[7]? ∧ t.notices[8]? = s.notices[8]? ∧
         t.vehicles = s.vehicles ∧ t.kinds = s.kinds ∧ t.printing = s.printing ∧ t.link = s.link ∧ t.now = s.now)) ∧
  ∀ s : State, s.listening → LatchLaw s →
    let lowered (k : Gate) : Gate := match k.barrier with
      | .forced => { k with barrier := .up }.lowerRequest s.now .release
      | .raising p o due true => { k with barrier := .raising p o due false, request := some ⟨.lower, .release⟩ }
      | .fault => k
      | _ => k.lowerRequest s.now .release
    exec .emergencyRelease s = .next (
      if s.emergency.latch = false ∨ s.emergency.input = true then s.answered Code.emergencyRelease .wrongState
      else State.answered { s with
        emergency := { s.emergency with latch := false }
        gates := ⟨lowered s.gates.g1R, lowered s.gates.g1Y, lowered s.gates.g2R, lowered s.gates.g2Y⟩ }
        Code.emergencyRelease .done (.latch false))

/-- R14, R19, R21, R145, R147, R148: QUIET, examined in its order, puts the calibrated decks ASLEEP. A wake, for each of
its causes, ends quiet running with its cause, brings the ASLEEP decks into WARMING with the working zero set, and raises
WOKEN with the cause; WAKE does it for the host. -/
def Obligations.QuietSleepsAndWakeWarms : Prop :=
  ∀ s : State,
    let busyGate (g : Gate) : Prop := g.waiting ≠ none ∨ g.barrier ≠ .down
    let busy := s.emergency.latch = true ∨ s.decks.d1.session ≠ none ∨ s.decks.d2.session ≠ none ∨
      busyGate s.gates.g1R ∨ busyGate s.gates.g1Y ∨ busyGate s.gates.g2R ∨ busyGate s.gates.g2Y ∨ s.printing.job ≠ none
    let cleared (k : Deck) (a : Availability) : Reading := { k.unit.reading with
      availability := a, status := .noStatus, current := false, still := 0, track := 0 }
    let asleep (k : Deck) : Deck := match k.unit.reading.availability with
      | .uncalibrated | .asleep => k
      | _ => { k with cells := { k.cells with cycle := none }
                      unit := { k.unit with refPresent := false, warmUp := none, reading := cleared k .asleep } }
    let awake (k : Deck) : Deck := match k.unit.reading.availability with
      | .asleep => { k with
          cells := { k.cells with cycle := none }
          unit := { zd := k.cal.zSet, refPresent := false, warmUp := some (s.now + 2000000)
                    ref := if k.unit.refPresent = true then k.unit.ref - (k.cal.zSet - k.unit.zd) else k.unit.ref
                    reading := cleared k .warming } }
      | _ => k
    let woken (c : WakeCause) : State := State.raise { s with
      service := { s.service with quiet := false, wake := some c }
      decks := ⟨awake s.decks.d1, awake s.decks.d2⟩ } .woken (.wake c)
    (∀ c, s.wakeYard c = woken c) ∧
    (s.listening → busy → s.service.quiet = false → exec .quiet s = .next (s.answered Code.quiet .busy)) ∧
    (s.listening → s.service.quiet = true → exec .quiet s = .next (s.answered Code.quiet .wrongState)) ∧
    (s.listening → ¬ busy → s.service.quiet = false → exec .quiet s = .next (State.answered
      { s with service := { s.service with quiet := true, wake := none }, decks := ⟨asleep s.decks.d1, asleep s.decks.d2⟩ }
      Code.quiet .done)) ∧
    (s.listening → s.service.quiet = false → exec .wake s = .next (s.answered Code.wake .wrongState)) ∧
    (s.listening → s.service.quiet = true → exec .wake s = .next ((woken .host).answered Code.wake .done))

/-! ### Ticket printing -/

/-- R55, R61, R160 to R162: the printer requests by the printer's state, and REDIRECT and REPRINT of a CLOSED visit. The
answer of one that the arbiter's choice follows shows the printer after it, and the revision its own write gave (log 13). -/
def Obligations.PrinterAndTicketRequests : Prop :=
  ∀ s : State, s.listening →
    let put (p : PrinterId) (st : PrinterState) (hold : Bool) : State := { s with printing := { s.printing with
      printers := s.printing.printers.set p { s.printing.printers.get p with state := st, hold := hold } } }
    let reply (kind : Byte) (p : PrinterId) (c : ReplyCode) (t : State) : State :=
      t.answered kind c (.printer (t.printing.printers.get p).state (t.printing.printers.get p).hold)
    let on (kind : Byte) (b : Byte) (own : PrinterId → Printer → State) : Host.Outcome State Fault Refusal :=
      .next (match printerOf b with
        | none => s.answered kind .outOfRange
        | some p => own p (s.printing.printers.get p))
    (∀ b, exec (.holdPrinter b) s = on Code.holdPrinter b fun p x => match x.state with
      | .inService => reply Code.holdPrinter p .done (put p .held false)
      | .printing => reply Code.holdPrinter p .done (put p .printing true)
      | .held => reply Code.holdPrinter p .done s
      | .outOfService => reply Code.holdPrinter p .wrongState s) ∧
    (∀ b, exec (.releasePrinter b) s = on Code.releasePrinter b fun p x =>
      if x.state = .printing ∧ x.hold = true then reply Code.releasePrinter p .done (put p .printing false)
      else if x.state = .held then reply Code.releasePrinter p .done (put p .inService false).serveBus
      else reply Code.releasePrinter p .wrongState s) ∧
    (∀ b, exec (.resumePrinter b) s = on Code.resumePrinter b fun p x =>
      if x.state = .outOfService then reply Code.resumePrinter p .done (put p .inService false).serveBus
      else reply Code.resumePrinter p .wrongState s) ∧
    ∀ (slot : Byte) (expected : Option Revision), slot.toNat < 128 →
      (expected = none ∨ expected = some (s.slot slot.toNat).revision) →
      let n := slot.toNat
      let r := (s.slot n).revision
      ((∀ v t, s.visit n = some v → v.state ≠ .closed t) →
        (∀ b, exec (.redirect slot expected b) s = .next (s.answered Code.redirect .wrongState (.revision r))) ∧
        exec (.reprint slot expected) s = .next (s.answered Code.reprint .wrongState (.revision r))) ∧
      ∀ v t, s.visit n = some v → v.state = .closed t →
        (∀ b, exec (.redirect slot expected b) s = .next (
          match targetOf b with
          | none => s.answered Code.redirect .outOfRange (.revision r)
          | some p =>
            let t' : Ticket := { t with target := p, mark := match p with
              | none => .notRequired
              | some _ => if t.mark = .notRequired then .unprinted else t.mark }
            let left := if t'.collected = true ∧ (t'.mark = .printed ∨ t'.mark = .notRequired) then none
              else some { v with state := .closed t' }
            let u := s.writeSlot n left
            if t.mark = .printing then s.answered Code.redirect .busy (.revision r)
            else u.serveBus.answered Code.redirect .done (.revision (if left = some v then r else r + 1)))) ∧
        exec (.reprint slot expected) s = .next (
          if t.mark = .printing then s.answered Code.reprint .busy (.revision r)
          else if t.collected = false ∧ t.mark = .printed then
            (s.writeSlot n (some { v with state := .closed { t with mark := .unprinted } })).serveBus.answered
              Code.reprint .done (.revision (r + 1))
          else s.answered Code.reprint .wrongState (.revision r))

/-- R153 to R156, R158: the arbiter makes no choice while a job is in progress; on an idle bus it hands the bus to the
other printer than the last-served one where that one is a candidate, with its oldest waiting ticket; a printer whose fault
line is active at its selection faults, and the arbiter chooses again: the start and the fault write the slot twice in one
event and its revision counts both (log 13). R163, R184, R188, R189: what the 61 bytes of the ticket frame hold. -/
def Obligations.ArbiterStartsTheOldestTicket : Prop :=
  (∀ (n : Nat) (x : Int), (bytesOfInt n x).length = n ∧ (natOfBytes (bytesOfInt n x) : Int) = x % 256 ^ n) ∧
  (∀ n x : Nat, bytesOfNat n x = bytesOfInt n x) ∧
  (∀ (p : PrinterId) (v : Visit) (t : Ticket),
    let f := ticketFrame p v t
    let deck (w : Weighing) : Byte := match w.deck with
      | .d1 => 1
      | .d2 => 2
    let origin (w : Weighing) : Byte := match w.origin with
      | .deck => 1
      | .manual => 2
      | .stored => 3
    let weighing (w : Weighing) : List Byte :=
      bytesOfInt 4 w.weight ++ [deck w] ++ bytesOfNat 4 w.time.toNat ++ [origin w]
    f.length = 61 ∧ slice f 0 1 = [0xC5] ∧ slice f 1 4 = bytesOfNat 4 t.number ∧ slice f 5 1 = bytesOfNat 1 t.attempts ∧
    slice f 6 1 = [match p with
      | .p1 => 1
      | .p2 => 2] ∧
    slice f 7 10 = (v.plate ++ List.replicate 10 0x20).take 10 ∧
    slice f 17 1 = [(if v.tag.isSome then 1 else 0) + (if v.account.isSome then 2 else 0)] ∧
    slice f 18 4 = bytesOfNat 4 (v.tag.elim 0 fun x => x.toNat) ∧
    slice f 22 2 = bytesOfNat 2 (v.account.elim 0 fun x => x.toNat) ∧ slice f 24 1 = bytesOfNat 1 v.kind ∧
    slice f 25 1 = [match v.direction with
      | .deliver => 1
      | .collect => 2] ∧
    slice f 26 10 = weighing t.first ∧ slice f 36 10 = weighing t.second ∧ slice f 46 4 = bytesOfInt 4 t.net ∧
    slice f 50 4 = bytesOfNat 4 t.charge ∧ slice f 54 4 = bytesOfNat 4 t.closeTime.toNat ∧
    slice f 58 1 = [(if v.onePass then 1 else 0) + (if t.adjusted then 2 else 0)] ∧
    slice f 59 2 = bytesOfNat 2 (((f.take 59).map fun b => b.toNat).sum % 65536)) ∧
  ∀ s : State,
    let waits (p : PrinterId) (n : Nat) (v : Visit) (t : Ticket) : Prop :=
      s.visit n = some v ∧ v.state = .closed t ∧ t.target = some p ∧ t.mark = .unprinted
    let age (k : Nat) : Nat :=
      if k < s.register.nextTicket then s.register.nextTicket - k else s.register.nextTicket + 99999999 - k
    let candidate (p : PrinterId) : Prop :=
      (s.printing.printers.get p).state = .inService ∧ ∃ n v t, waits p n v t
    let oldest (p : PrinterId) (n : Nat) (v : Visit) (t : Ticket) : Prop := waits p n v t ∧
      (∀ m u x, waits p m u x → age x.number ≤ age t.number) ∧ ∀ m u x, waits p m u x → age x.number = age t.number → n ≤ m
    let started (p : PrinterId) (n : Nat) (v : Visit) (t : Ticket) : State :=
      let t' : Ticket := { t with mark := .printing, attempts := min 15 (t.attempts + 1) }
      { s with
        register := { s.register with
          slots := s.register.slots.set n ⟨(s.slot n).revision + 1, some { v with state := .closed t' }⟩ }
        printing := { s.printing with
          printers := s.printing.printers.set p { s.printing.printers.get p with state := .printing, hold := false }
          lastServed := p
          job := some { printer := p, slot := n, ticket := t.number, copy := t'.attempts, frame := ticketFrame p v t'
                        sent := 0, times := s.printing.times
                        phase := if (s.printing.printers.get p).pins.busy = true then .waitBusy (s.now + 2000000)
                          else .setup (s.now + s.printing.times.setup) } } }
    let failed (p : PrinterId) (n : Nat) (v : Visit) (t : Ticket) : State :=
      let t' : Ticket := { t with attempts := min 15 (t.attempts + 1) }
      State.raise { s with
        register := { s.register with
          slots := s.register.slots.set n ⟨(s.slot n).revision + 2, some { v with state := .closed t' }⟩ }
        printing := { s.printing with
          printers := s.printing.printers.set p { s.printing.printers.get p with
            state := .outOfService, hold := false, lastFault := some .faultLine }
          lastServed := p } } .printerFault (.printer p)
    (s.printing.job ≠ none → s.serveBus = s) ∧
    (s.printing.job = none → (∀ p, ¬ candidate p) → s.serveBus = s) ∧
    ∀ p n v t, s.printing.job = none → candidate p → (p = s.printing.lastServed → ¬ candidate p.other) → oldest p n v t →
      s.serveBus =
        if (s.printing.printers.get p).pins.fault = true then (failed p n v t).serveBus else started p n v t

/-- R150, R156, R157: the transfer of a ticket frame, byte by byte, and the outcomes of a job; each outcome is followed by
the arbiter's choice. A hold time of 0 ends the byte at the end of its strobe (log 18), and a level already there changes
nothing (the model's choice: log 4). The lines of the bus follow the job, with PD outside a byte's setup, strobe and hold as
the model reads it (log 29). With no job the lines rest, and a change of an input is recorded alone. -/
def Obligations.JobsRunToTheirOutcome : Prop :=
  (∀ s : State, s.powered = true → s.printing.job = none →
    let c := s.printing
    let pinned (x : PrinterPins) (q : PrinterId) : State := { s with printing := { c with
      printers := c.printers.set q { c.printers.get q with pins := x } } }
    (∀ q, c.selected q = false) ∧ c.strobe = false ∧ c.data = 0 ∧
    (∀ e ∈ [Instr.setupTimeLapse, .strobeTimeLapse, .holdTimeLapse, .busyWaitLapse, .completionLimitLapse],
      exec e s = .next s) ∧
    ∀ q active,
      let x := (c.printers.get q).pins
      exec (.pbusyChange q active) s = .next (pinned { x with busy := active } q) ∧
      exec (.pfltChange q active) s = .next (pinned { x with fault := active } q) ∧
      exec (.pdoneChange q active) s = .next (pinned { x with done := active } q)) ∧
  (∀ (c : Printing) (j : Job), c.job = some j →
    (∀ q, c.selected q = true ↔ q = j.printer ∧ ∀ due, j.phase ≠ .completing due) ∧
    (c.strobe = true ↔ ∃ due, j.phase = .strobe due) ∧
    c.data = match j.phase with
      | .waitBusy _ => if j.sent = 0 then 0 else byteAt j.frame (j.sent - 1)
      | .setup _ | .strobe _ | .hold _ => byteAt j.frame j.sent
      | .completing _ => 0) ∧
  ∀ (s : State) (j : Job), s.powered = true → s.printing.job = some j →
    let p := j.printer
    let put (t : State) (x : JobPhase) : State :=
      { t with printing := { t.printing with job := some { j with phase := x } } }
    let pinned (x : PrinterPins) (q : PrinterId) : State := { s with printing := { s.printing with
      printers := s.printing.printers.set q { s.printing.printers.get q with pins := x } } }
    let wrote (t : State) (f : Visit → Ticket → Option Visit) : State := match t.visit j.slot with
      | some v => match v.state with
        | .closed k => if k.mark = .printing then t.writeSlot j.slot (f v k) else t
        | _ => t
      | none => t
    let outcome (t : State) (x : Printer) : State :=
      { t with printing := { t.printing with printers := t.printing.printers.set p x, job := none } }
    let faulted (t : State) (c : FaultCause) : State :=
      ((outcome (wrote t fun v k => some { v with state := .closed { k with mark := .unprinted } })
        { t.printing.printers.get p with state := .outOfService, hold := false, lastFault := some c }).raise
          .printerFault (.printer p)).serveBus
    let finished (t : State) : State :=
      (outcome (wrote t fun v k => if k.collected = true then none else some { v with state := .closed { k with mark := .printed } })
        { t.printing.printers.get p with
          state := if (t.printing.printers.get p).hold = true then .held else .inService, hold := false }).serveBus
    let sent (t : State) : State :=
      let t' : State := { t with printing := { t.printing with job := some { j with
        sent := j.sent + 1
        phase := if j.frame.length ≤ j.sent + 1 then .completing (t.now + j.times.completion * 1000000)
          else if (t.printing.printers.get p).pins.busy = true then .waitBusy (t.now + 2000000)
          else .setup (t.now + j.times.setup) } } }
      if j.frame.length ≤ j.sent + 1 ∧ (t.printing.printers.get p).pins.fault = true then faulted t .faultLine else t'
    let at' (due : Nat) : State := { s with now := max s.now due }
    (∀ due, j.phase = .setup due →
      exec .setupTimeLapse s = .next (put (at' due) (.strobe (max s.now due + j.times.strobe)))) ∧
    (∀ due, j.phase = .strobe due → exec .strobeTimeLapse s = .next (
      if j.times.hold = 0 then sent (at' due) else put (at' due) (.hold (max s.now due + j.times.hold)))) ∧
    (∀ due, j.phase = .hold due → exec .holdTimeLapse s = .next (sent (at' due))) ∧
    (∀ due, j.phase = .waitBusy due → exec .busyWaitLapse s = .next (faulted (at' due) .busyTimeout)) ∧
    (∀ due, j.phase = .completing due → exec .completionLimitLapse s = .next (faulted (at' due) .doneTimeout)) ∧
    ∀ q active,
      let x := (s.printing.printers.get q).pins
      exec (.pbusyChange q active) s = .next (
        if x.busy = active then s
        else match j.phase with
          | .waitBusy _ => if q = p ∧ active = false then
              put (pinned { x with busy := active } q) (.setup (s.now + j.times.setup))
            else pinned { x with busy := active } q
          | _ => pinned { x with busy := active } q) ∧
      exec (.pfltChange q active) s = .next (
        if x.fault = active then s
        else if q = p ∧ active = true then faulted (pinned { x with fault := active } q) .faultLine
        else pinned { x with fault := active } q) ∧
      exec (.pdoneChange q active) s = .next (
        if x.done = active then s
        else match j.phase with
          | .completing _ => if q = p ∧ active = true then finished (pinned { x with done := active } q)
            else pinned { x with done := active } q
          | _ => pinned { x with done := active } q)

/-! ### Notices and device service -/

/-- R168, R169, R171, R172: a raising, TAKE_NOTICE, DROP_NOTICES and SET_NOTICE. -/
def Obligations.NoticesPendAndLeave : Prop :=
  ∀ s : State,
    let pends (i : Nat) (l : NoticeLine) (x : Detail) : Prop := s.notices[i]? = some l ∧ l.detail = some x
    let first (i : Nat) (l : NoticeLine) : Prop := ∀ m k y, pends m k y →
      (k.level = l.level → i ≤ m) ∧ (k.level = .urgent → l.level = .urgent)
    let put (i : Nat) (l : NoticeLine) : State := { s with notices := s.notices.set i l }
    let count := s.notices.countP fun (l : NoticeLine) => l.detail.isSome
    (∀ (k : NoticeKind) (x : Detail) (l : NoticeLine), s.notices[k.order]? = some l →
      s.raise k x = if l.enable = true then put k.order { l with detail := some x } else s) ∧
    (s.listening → s.notices.length = 16 →
      (∀ (k : NoticeKind) (l : NoticeLine) (x : Detail), pends k.order l x → first k.order l → exec .takeNotice s = .next
        ((put k.order { l with detail := none }).answered Code.takeNotice .done
          (.notice (some (k, l.level, x)) (count - 1)))) ∧
      ((∀ (i : Nat) (l : NoticeLine), s.notices[i]? = some l → l.detail = none) →
        exec .takeNotice s = .next (s.answered Code.takeNotice .done (.notice none 0)))) ∧
    (s.listening → exec .dropNotices s = .next (State.answered
      { s with notices := s.notices.map fun l => { l with detail := none } } Code.dropNotices .done (.dropped count))) ∧
    (s.listening → ∀ kind enable level : Byte,
      let e := decide (enable = 1)
      let v : Level := if level = 1 then .urgent else .routine
      let bad := 16 ≤ kind.toNat ∨ 1 < enable.toNat ∨ ¬ (level = 1 ∨ level = 2)
      (bad → exec (.setNotice kind enable level) s = .next (s.answered Code.setNotice .outOfRange)) ∧
      ∀ l : NoticeLine, ¬ bad → s.notices[kind.toNat]? = some l → exec (.setNotice kind enable level) s = .next
        ((put kind.toNat ⟨e, v, if e = true then l.detail else none⟩).answered Code.setNotice .done
          (.noticeSetting e v)))

/-- R63, R179, R180: SET_CLOCK, SET_SITE and each second of the yard clock, followed by the over-stay check: every
over-staying ON_SITE visit is flagged, and the pending OVER_STAY keeps the last slot. With the main supply off the clock
alone advances, while the backup supply holds (log 23). -/
def Obligations.ClockAndSiteCheckTheStays : Prop :=
  (∀ s : State, s.register.slots.length = 128 →
    let late (v : Visit) : Prop := (∃ w, v.state = .onSite w) ∧ v.overStay = false ∧
      v.opened.toNat + s.service.maxStay * 3600 < s.service.clock.toNat
    let t := s.checkStays
    (∀ n v, s.visit n = some v → late v → t.slot n = ⟨(s.slot n).revision + 1, some { v with overStay := true }⟩) ∧
    (∀ n, (∀ v, s.visit n = some v → ¬ late v) → t.slot n = s.slot n) ∧
    (∀ n v l, s.visit n = some v → late v → (∀ m u, s.visit m = some u → late u → m ≤ n) → s.notices[11]? = some l →
      l.enable = true → t.notices[11]? = some { l with detail := some (.slot n) }) ∧
    ((∀ n v, s.visit n = some v → ¬ late v) → t = s) ∧
    (∀ i, i ≠ 11 → t.notices[i]? = s.notices[i]?) ∧ t.service = s.service ∧ t.accounts = s.accounts ∧
    t.register.nextTicket = s.register.nextTicket ∧ t.decks = s.decks ∧ t.gates = s.gates) ∧
  (∀ (s : State) (seconds : Seconds), s.listening → exec (.setClock seconds) s = .next
    ((State.checkStays { s with service := { s.service with
      clock := seconds, clockSet := true, secondDue := s.now + 1000000 } }).answered Code.setClock .done)) ∧
  (∀ (s : State) (stay tagWake loopWake : Byte), s.listening →
    let m := max 1 (min 48 stay.toNat)
    exec (.setSite stay tagWake loopWake) s = .next (
      if 1 < tagWake.toNat ∨ 1 < loopWake.toNat then s.answered Code.setSite .outOfRange
      else (State.checkStays { s with service := { s.service with
        maxStay := m, tagWake := decide (tagWake = 1), loopWake := decide (loopWake = 1) } }).answered Code.setSite .done
          (.site m (decide (tagWake = 1)) (decide (loopWake = 1))) (decide (stay = 0 ∨ 48 < stay.toNat)))) ∧
  ∀ s : State,
    let due := s.service.secondDue
    let t : State := { s with now := max s.now due
                              service := { s.service with clock := s.service.clock + 1, secondDue := due + 1000000 } }
    exec .yardClockAdvance s = .next (if s.powered = true then t.checkStays else if s.service.mark = true then t else s)

/-- R18, R19, R24, R66, R89, R90, R108, R143, R151, R152, R165, R173, R181, R182: POWER_ON, PIN_RESET and RESTART: what
each block holds after a reset; the print arbiter then chooses, and an ACTIVE EMERG then sets the latch: every gate takes the
forced raise and EMERGENCY joins the reset contents. After a power-on with the retention mark lost the retained records have
their initial contents. That a POWER_ON taken with the main supply up is performed just the same is the model's choice
(log 34), and what `pins.ncs` says is log 7. -/
def Obligations.ResetsTakeTheBlocksBack : Prop :=
  (∀ s : State, (∀ d, (s.deck d).session = none) → s.service.quiet = false →
    let forced (k : Gate) : Gate :=
      let driven : Barrier :=
        if k.upSwitch = true then .forced else .raising .drive .emergency (s.now + k.driveLimit * 1000000) true
      { k with request := none, pass := false, waiting := none, barrier := match k.barrier with
        | .raising .settle _ _ _ | .up | .forced => .forced
        | .fault => if k.upSwitch = true ∧ k.downSwitch = true then .fault else driven
        | _ => driven }
    s.setLatch = State.raise { s with
      emergency := { s.emergency with latch := true }
      gates := ⟨forced s.gates.g1R, forced s.gates.g1Y, forced s.gates.g2R, forced s.gates.g2Y⟩ } .emergency .nothing) ∧
  ∀ (s : State) (pins : Pins),
    let deck (k : Deck) : Deck := { k with
      cells := ⟨s.now + 50000, 0, List.replicate 8 ⟨0, false⟩, none⟩
      unit := { reading := ⟨if k.cal.record = none then .uncalibrated else .warming, .noStatus, 0, 0, false, 0, 0, 0, 0⟩
                zd := if k.cal.record = none then 0 else k.cal.zSet, ref := 0, refPresent := false
                warmUp := if k.cal.record = none then none else some (s.now + 2000000) }
      session := none }
    let gate (k : Gate) (x : GatePins) : Gate :=
      let k' : Gate := { k with request := none, locked := true, pass := false, occupied := x.occupied, upSwitch := x.up
                                downSwitch := x.down, memory := none, drops := 0, waiting := none }
      if x.up = x.down then { k' with barrier := .fault }
      else if x.down = true then { k' with barrier := .down }
      else { k' with barrier := .up }.lowerRequest s.now .reset
    let slot (sl : Slot) : Slot := match sl.visit with
      | none => sl
      | some v => match v.state with
        | .arriving _ => ⟨sl.revision + 1, none⟩
        | .departing _ w => ⟨sl.revision + 1, some { v with state := .onSite w }⟩
        | .closed t => if t.mark = .printing then
            ⟨sl.revision + 1, some { v with state := .closed { t with mark := .unprinted } }⟩ else sl
        | _ => sl
    let arriving (n : AccountNo) : Nat := s.register.slots.countP fun sl => sl.visit.any fun v =>
      v.account == some n && (match v.state with
        | .arriving _ => true
        | _ => false)
    let line (cause : ResetCause) (lost : Bool) (k : NoticeKind) : NoticeLine :=
      ⟨true, if k.order < 5 then .urgent else .routine,
        if k = .restarted then some (.reset cause) else if k = .retentionLost ∧ lost = true then some .nothing else none⟩
    let blocks (cause : ResetCause) : State := { s with
      powered := true, link := none, port := ⟨[], pins.ncs⟩
      decks := ⟨deck s.decks.d1, deck s.decks.d2⟩
      gates := ⟨gate s.gates.g1R pins.gates.g1R, gate s.gates.g1Y pins.gates.g1Y, gate s.gates.g2R pins.gates.g2R,
        gate s.gates.g2Y pins.gates.g2Y⟩
      register := { s.register with slots := s.register.slots.map slot, cursor := ⟨0, .up, .anyNonFree, none⟩ }
      accounts := s.accounts.map fun a => { a with count := a.count - arriving a.number }
      printing := ⟨⟨⟨.inService, false, none, pins.printers.p1⟩, ⟨.inService, false, none, pins.printers.p2⟩⟩, .p2,
        s.printing.times, none⟩
      notices := NoticeKind.all.map (line cause false)
      emergency := ⟨false, pins.emergency⟩
      service := { s.service with mark := true, intact := true, cause := cause, quiet := false, wake := none } }
    let lost (k : Gate) : Gate := { k with warnTime := 4, driveLimit := 6, settleTime := 2 }
    let empty : Deck := deck ⟨⟨none, 0, 0⟩, s.decks.d1.cells, s.decks.d1.unit, none, ⟨90, 120, 60⟩⟩
    let initial : State := { blocks .powerOn with
      decks := ⟨empty, empty⟩
      gates := ⟨gate (lost s.gates.g1R) pins.gates.g1R, gate (lost s.gates.g1Y) pins.gates.g1Y,
        gate (lost s.gates.g2R) pins.gates.g2R, gate (lost s.gates.g2Y) pins.gates.g2Y⟩
      register := ⟨List.replicate 128 ⟨0, none⟩, 1, ⟨0, .up, .anyNonFree, none⟩⟩
      vehicles := [], accounts := [], kinds := List.replicate 32 ⟨false, .both, 0, 0⟩
      printing := { (blocks .powerOn).printing with times := ⟨2, 4, 1, 20⟩ }
      notices := NoticeKind.all.map (line .powerOn true)
      service := ⟨0, false, s.now + 1000000, true, false, .powerOn, false, none, 4, true, true⟩ }
    let ends (t : State) : Host.Outcome State Fault Refusal :=
      .next (if pins.emergency = true then t.serveBus.setLatch else t.serveBus)
    (s.powered = true → exec (.pinReset pins) s = ends (blocks .pinReset)) ∧
    (s.listening → exec (.restart pins) s = ends (blocks .linkReset)) ∧
    exec (.powerOn pins) s = ends (if s.service.mark = true then blocks .powerOn else initial)

/-- R22, R28, R66, R89, R117, R183, R182: CLEAR_TABLES, examined in its order, and what it clears; a loss of the main
supply keeps what is retained (the values of volatile state without supply are the model's: log 5). The waiting calls are
refused with CALL_REFUSED in the order 1R, 1Y, 2R, 2Y, of which R117 gives the order of the two gates of one deck and the
model chose that of the decks (log 14). -/
def Obligations.TablesClearAndSupplyFails : Prop :=
  ∀ s : State,
    let cleared (k : Deck) : Deck := { k with
      cal := ⟨none, k.cal.changes, 0⟩
      cells := { k.cells with cells := List.replicate 8 ⟨0, false⟩, cycle := none }
      unit := ⟨⟨.uncalibrated, .noStatus, 0, 0, false, 0, 0, 0, 0⟩, 0, k.unit.ref, false, none⟩ }
    let unheld (k : Gate) : Gate := { k with waiting := none }
    let t : State := { s with
      decks := ⟨cleared s.decks.d1, cleared s.decks.d2⟩
      gates := ⟨unheld s.gates.g1R, unheld s.gates.g1Y, unheld s.gates.g2R, unheld s.gates.g2Y⟩
      register := ⟨s.register.slots.map fun sl => if sl.visit = none then sl else ⟨sl.revision + 1, none⟩, 1,
        ⟨0, .up, .anyNonFree, none⟩⟩
      vehicles := [], accounts := [], kinds := List.replicate 32 ⟨false, .both, 0, 0⟩
      service := { s.service with mark := true } }
    let refusal (g : GateId) (x : State) : State :=
      if (s.gate g).waiting = none then x else x.raise .callRefused (.refusal g .deckUnavailable)
    (∀ closed, s.listening → exec (.clearTables closed) s = .next (
      if closed = false then s.answered Code.clearTables .guarded
      else if s.decks.d1.session ≠ none ∨ s.decks.d2.session ≠ none then s.answered Code.clearTables .busy
      else (refusal .g2Y (refusal .g2R (refusal .g1Y (refusal .g1R t)))).answered Code.clearTables .done)) ∧
    ∀ fails, ∃ u, exec (.mainSupplyLoss fails) s = .next u ∧ u.powered = false ∧
      (u.service.mark = true ↔ s.service.mark = true ∧ fails = false) ∧
      (∀ d, (u.deck d).cal = (s.deck d).cal ∧ (u.deck d).times = (s.deck d).times) ∧
      (∀ g, (u.gate g).warnTime = (s.gate g).warnTime ∧ (u.gate g).driveLimit = (s.gate g).driveLimit ∧
        (u.gate g).settleTime = (s.gate g).settleTime) ∧
      u.register.slots = s.register.slots ∧ u.register.nextTicket = s.register.nextTicket ∧ u.vehicles = s.vehicles ∧
      u.accounts = s.accounts ∧ u.kinds = s.kinds ∧ u.printing.times = s.printing.times ∧
      u.service.clock = s.service.clock ∧ u.service.clockSet = s.service.clockSet ∧
      u.service.maxStay = s.service.maxStay ∧ u.service.tagWake = s.service.tagWake ∧
      u.service.loopWake = s.service.loopWake

/-! ### The laws of the device -/

/-- R10, R14, R18, R27, R36, R40, R44, R49, R61, R67, R74, R75, R99, R113, R139: `State.reset` satisfies every law of the device.
It is the model's choice of the state right after reset: the power-on that finds retention lost, with every input at rest
(log 1); what the other resets leave stands in ResetsTakeTheBlocksBack. -/
def Obligations.LawsHoldAtReset : Prop :=
  LoopGuard State.reset ∧ LatchLaw State.reset ∧ DeckLaws State.reset ∧ TableLaws State.reset ∧
    OpenUnique State.reset ∧ TicketsUnique State.reset ∧ RetirementLaw State.reset ∧ CountsLaw State.reset ∧
    CreditLaw State.reset ∧ SessionDeckLaw State.reset

/-- R99: no step lets a barrier lower in WARN or DRIVE while its loop is OCCUPIED. -/
def Obligations.StepKeepsTheLoopGuard : Prop :=
  ∀ s t : State, LoopGuard s → step s = .next t → LoopGuard t

/-- R139: every step keeps both sessions VACANT and every waiting call absent while the latch is set. -/
def Obligations.StepKeepsTheLatchLaw : Prop :=
  ∀ s t : State, LatchLaw s → step s = .next t → LatchLaw t

/-- R10, R14, R18, R27: every step keeps the laws of the decks. -/
def Obligations.StepKeepsTheDeckLaws : Prop :=
  ∀ s t : State, DeckLaws s → step s = .next t → DeckLaws t

/-- R49, R61, R67, R74: every step keeps the sizes of the fixed tables, the keys of the vehicle and account tables and the
ticket numbers each unique, and no visit both collected and settled. -/
def Obligations.StepKeepsTheTables : Prop :=
  ∀ s t : State, TableLaws s → TicketsUnique s → RetirementLaw s → step s = .next t →
    TableLaws t ∧ TicketsUnique t ∧ RetirementLaw t

/-- R44: every step keeps the tags and the plates of open visits unique. -/
def Obligations.StepKeepsOpenVisitsUnique : Prop :=
  ∀ s t : State, OpenUnique s → step s = .next t → OpenUnique t

/-- R74, R75: every step keeps the on-site counts equal to the open visits of each account, and an ACTIVE account above
its floor. -/
def Obligations.StepKeepsTheAccounts : Prop :=
  ∀ s t : State, AccountsOrdered s → CountsLaw s → CreditLaw s → step s = .next t → CountsLaw t ∧ CreditLaw t

/-- R113: every step keeps a deck named by one visit in CALLED, BOARDING and ON_DECK, and by none otherwise. -/
def Obligations.StepKeepsTheSessionDeck : Prop :=
  ∀ s t : State, SessionDeckLaw s → step s = .next t → SessionDeckLaw t
end

