-- ==== Sys2Proof/Laws/State.lean ====
section
/-! SUPPORT. State laws: what each plain update of State leaves, one lemma an update with one clause a field, and what
the accessors read after it. -/

namespace Sys2Proof.Machine

open Sys2Proof

/-- `setDeck` changes only decks. -/
@[simp] theorem setDeck_frame (s : State) (d : DeckId) (x : Deck) :
    (s.setDeck d x).pending = s.pending ∧ (s.setDeck d x).now = s.now ∧ (s.setDeck d x).powered = s.powered ∧
    (s.setDeck d x).link = s.link ∧ (s.setDeck d x).port = s.port ∧ (s.setDeck d x).gates = s.gates ∧
    (s.setDeck d x).register = s.register ∧ (s.setDeck d x).vehicles = s.vehicles ∧
    (s.setDeck d x).accounts = s.accounts ∧ (s.setDeck d x).kinds = s.kinds ∧
    (s.setDeck d x).printing = s.printing ∧ (s.setDeck d x).notices = s.notices ∧
    (s.setDeck d x).emergency = s.emergency ∧ (s.setDeck d x).service = s.service :=
  ⟨rfl, rfl, rfl, rfl, rfl, rfl, rfl, rfl, rfl, rfl, rfl, rfl, rfl, rfl⟩

/-- `setSession` changes only decks. -/
@[simp] theorem setSession_frame (s : State) (d : DeckId) (x : Option Serving) :
    (s.setSession d x).pending = s.pending ∧ (s.setSession d x).now = s.now ∧
    (s.setSession d x).powered = s.powered ∧ (s.setSession d x).link = s.link ∧ (s.setSession d x).port = s.port ∧
    (s.setSession d x).gates = s.gates ∧ (s.setSession d x).register = s.register ∧
    (s.setSession d x).vehicles = s.vehicles ∧ (s.setSession d x).accounts = s.accounts ∧
    (s.setSession d x).kinds = s.kinds ∧ (s.setSession d x).printing = s.printing ∧
    (s.setSession d x).notices = s.notices ∧ (s.setSession d x).emergency = s.emergency ∧
    (s.setSession d x).service = s.service :=
  ⟨rfl, rfl, rfl, rfl, rfl, rfl, rfl, rfl, rfl, rfl, rfl, rfl, rfl, rfl⟩

/-- `setUnit` changes only decks. -/
@[simp] theorem setUnit_frame (s : State) (d : DeckId) (u : Weigher) :
    (s.setUnit d u).pending = s.pending ∧ (s.setUnit d u).now = s.now ∧ (s.setUnit d u).powered = s.powered ∧
    (s.setUnit d u).link = s.link ∧ (s.setUnit d u).port = s.port ∧ (s.setUnit d u).gates = s.gates ∧
    (s.setUnit d u).register = s.register ∧ (s.setUnit d u).vehicles = s.vehicles ∧
    (s.setUnit d u).accounts = s.accounts ∧ (s.setUnit d u).kinds = s.kinds ∧
    (s.setUnit d u).printing = s.printing ∧ (s.setUnit d u).notices = s.notices ∧
    (s.setUnit d u).emergency = s.emergency ∧ (s.setUnit d u).service = s.service :=
  ⟨rfl, rfl, rfl, rfl, rfl, rfl, rfl, rfl, rfl, rfl, rfl, rfl, rfl, rfl⟩

/-- `setCells` changes only decks. -/
@[simp] theorem setCells_frame (s : State) (d : DeckId) (c : CellLink) :
    (s.setCells d c).pending = s.pending ∧ (s.setCells d c).now = s.now ∧ (s.setCells d c).powered = s.powered ∧
    (s.setCells d c).link = s.link ∧ (s.setCells d c).port = s.port ∧ (s.setCells d c).gates = s.gates ∧
    (s.setCells d c).register = s.register ∧ (s.setCells d c).vehicles = s.vehicles ∧
    (s.setCells d c).accounts = s.accounts ∧ (s.setCells d c).kinds = s.kinds ∧
    (s.setCells d c).printing = s.printing ∧ (s.setCells d c).notices = s.notices ∧
    (s.setCells d c).emergency = s.emergency ∧ (s.setCells d c).service = s.service :=
  ⟨rfl, rfl, rfl, rfl, rfl, rfl, rfl, rfl, rfl, rfl, rfl, rfl, rfl, rfl⟩

/-- `setCell` changes only decks. -/
@[simp] theorem setCell_frame (s : State) (d : DeckId) (i : Nat) (c : Cell) :
    (s.setCell d i c).pending = s.pending ∧ (s.setCell d i c).now = s.now ∧ (s.setCell d i c).powered = s.powered ∧
    (s.setCell d i c).link = s.link ∧ (s.setCell d i c).port = s.port ∧ (s.setCell d i c).gates = s.gates ∧
    (s.setCell d i c).register = s.register ∧ (s.setCell d i c).vehicles = s.vehicles ∧
    (s.setCell d i c).accounts = s.accounts ∧ (s.setCell d i c).kinds = s.kinds ∧
    (s.setCell d i c).printing = s.printing ∧ (s.setCell d i c).notices = s.notices ∧
    (s.setCell d i c).emergency = s.emergency ∧ (s.setCell d i c).service = s.service :=
  ⟨rfl, rfl, rfl, rfl, rfl, rfl, rfl, rfl, rfl, rfl, rfl, rfl, rfl, rfl⟩

/-- `setGate` changes only gates. -/
@[simp] theorem setGate_frame (s : State) (g : GateId) (x : Gate) :
    (s.setGate g x).pending = s.pending ∧ (s.setGate g x).now = s.now ∧ (s.setGate g x).powered = s.powered ∧
    (s.setGate g x).link = s.link ∧ (s.setGate g x).port = s.port ∧ (s.setGate g x).decks = s.decks ∧
    (s.setGate g x).register = s.register ∧ (s.setGate g x).vehicles = s.vehicles ∧
    (s.setGate g x).accounts = s.accounts ∧ (s.setGate g x).kinds = s.kinds ∧
    (s.setGate g x).printing = s.printing ∧ (s.setGate g x).notices = s.notices ∧
    (s.setGate g x).emergency = s.emergency ∧ (s.setGate g x).service = s.service :=
  ⟨rfl, rfl, rfl, rfl, rfl, rfl, rfl, rfl, rfl, rfl, rfl, rfl, rfl, rfl⟩

/-- `dropWaiting` changes only gates. -/
@[simp] theorem dropWaiting_frame (s : State) (g : GateId) :
    (s.dropWaiting g).pending = s.pending ∧ (s.dropWaiting g).now = s.now ∧ (s.dropWaiting g).powered = s.powered ∧
    (s.dropWaiting g).link = s.link ∧ (s.dropWaiting g).port = s.port ∧ (s.dropWaiting g).decks = s.decks ∧
    (s.dropWaiting g).register = s.register ∧ (s.dropWaiting g).vehicles = s.vehicles ∧
    (s.dropWaiting g).accounts = s.accounts ∧ (s.dropWaiting g).kinds = s.kinds ∧
    (s.dropWaiting g).printing = s.printing ∧ (s.dropWaiting g).notices = s.notices ∧
    (s.dropWaiting g).emergency = s.emergency ∧ (s.dropWaiting g).service = s.service :=
  ⟨rfl, rfl, rfl, rfl, rfl, rfl, rfl, rfl, rfl, rfl, rfl, rfl, rfl, rfl⟩

/-- `setPass` changes only gates. -/
@[simp] theorem setPass_frame (s : State) (g : GateId) (b : Bool) :
    (s.setPass g b).pending = s.pending ∧ (s.setPass g b).now = s.now ∧ (s.setPass g b).powered = s.powered ∧
    (s.setPass g b).link = s.link ∧ (s.setPass g b).port = s.port ∧ (s.setPass g b).decks = s.decks ∧
    (s.setPass g b).register = s.register ∧ (s.setPass g b).vehicles = s.vehicles ∧
    (s.setPass g b).accounts = s.accounts ∧ (s.setPass g b).kinds = s.kinds ∧
    (s.setPass g b).printing = s.printing ∧ (s.setPass g b).notices = s.notices ∧
    (s.setPass g b).emergency = s.emergency ∧ (s.setPass g b).service = s.service :=
  ⟨rfl, rfl, rfl, rfl, rfl, rfl, rfl, rfl, rfl, rfl, rfl, rfl, rfl, rfl⟩

/-- `sendRaise` changes only gates. -/
@[simp] theorem sendRaise_frame (s : State) (g : GateId) (o : Origin) :
    (s.sendRaise g o).pending = s.pending ∧ (s.sendRaise g o).now = s.now ∧ (s.sendRaise g o).powered = s.powered ∧
    (s.sendRaise g o).link = s.link ∧ (s.sendRaise g o).port = s.port ∧ (s.sendRaise g o).decks = s.decks ∧
    (s.sendRaise g o).register = s.register ∧ (s.sendRaise g o).vehicles = s.vehicles ∧
    (s.sendRaise g o).accounts = s.accounts ∧ (s.sendRaise g o).kinds = s.kinds ∧
    (s.sendRaise g o).printing = s.printing ∧ (s.sendRaise g o).notices = s.notices ∧
    (s.sendRaise g o).emergency = s.emergency ∧ (s.sendRaise g o).service = s.service :=
  ⟨rfl, rfl, rfl, rfl, rfl, rfl, rfl, rfl, rfl, rfl, rfl, rfl, rfl, rfl⟩

/-- `sendLower` changes only gates. -/
@[simp] theorem sendLower_frame (s : State) (g : GateId) (o : Origin) :
    (s.sendLower g o).pending = s.pending ∧ (s.sendLower g o).now = s.now ∧ (s.sendLower g o).powered = s.powered ∧
    (s.sendLower g o).link = s.link ∧ (s.sendLower g o).port = s.port ∧ (s.sendLower g o).decks = s.decks ∧
    (s.sendLower g o).register = s.register ∧ (s.sendLower g o).vehicles = s.vehicles ∧
    (s.sendLower g o).accounts = s.accounts ∧ (s.sendLower g o).kinds = s.kinds ∧
    (s.sendLower g o).printing = s.printing ∧ (s.sendLower g o).notices = s.notices ∧
    (s.sendLower g o).emergency = s.emergency ∧ (s.sendLower g o).service = s.service :=
  ⟨rfl, rfl, rfl, rfl, rfl, rfl, rfl, rfl, rfl, rfl, rfl, rfl, rfl, rfl⟩

/-- `holdCall` changes only gates. -/
@[simp] theorem holdCall_frame (s : State) (g : GateId) (f : CallForm) :
    (s.holdCall g f).pending = s.pending ∧ (s.holdCall g f).now = s.now ∧ (s.holdCall g f).powered = s.powered ∧
    (s.holdCall g f).link = s.link ∧ (s.holdCall g f).port = s.port ∧ (s.holdCall g f).decks = s.decks ∧
    (s.holdCall g f).register = s.register ∧ (s.holdCall g f).vehicles = s.vehicles ∧
    (s.holdCall g f).accounts = s.accounts ∧ (s.holdCall g f).kinds = s.kinds ∧
    (s.holdCall g f).printing = s.printing ∧ (s.holdCall g f).notices = s.notices ∧
    (s.holdCall g f).emergency = s.emergency ∧ (s.holdCall g f).service = s.service :=
  ⟨rfl, rfl, rfl, rfl, rfl, rfl, rfl, rfl, rfl, rfl, rfl, rfl, rfl, rfl⟩

/-- `raise` changes only notices. -/
@[simp] theorem raise_frame (s : State) (k : NoticeKind) (x : Detail) :
    (s.raise k x).pending = s.pending ∧ (s.raise k x).now = s.now ∧ (s.raise k x).powered = s.powered ∧
    (s.raise k x).link = s.link ∧ (s.raise k x).port = s.port ∧ (s.raise k x).decks = s.decks ∧
    (s.raise k x).gates = s.gates ∧ (s.raise k x).register = s.register ∧ (s.raise k x).vehicles = s.vehicles ∧
    (s.raise k x).accounts = s.accounts ∧ (s.raise k x).kinds = s.kinds ∧ (s.raise k x).printing = s.printing ∧
    (s.raise k x).emergency = s.emergency ∧ (s.raise k x).service = s.service :=
  ⟨rfl, rfl, rfl, rfl, rfl, rfl, rfl, rfl, rfl, rfl, rfl, rfl, rfl, rfl⟩

/-- `dropNotice` changes only notices. -/
@[simp] theorem dropNotice_frame (s : State) (k : NoticeKind) :
    (s.dropNotice k).pending = s.pending ∧ (s.dropNotice k).now = s.now ∧ (s.dropNotice k).powered = s.powered ∧
    (s.dropNotice k).link = s.link ∧ (s.dropNotice k).port = s.port ∧ (s.dropNotice k).decks = s.decks ∧
    (s.dropNotice k).gates = s.gates ∧ (s.dropNotice k).register = s.register ∧
    (s.dropNotice k).vehicles = s.vehicles ∧ (s.dropNotice k).accounts = s.accounts ∧
    (s.dropNotice k).kinds = s.kinds ∧ (s.dropNotice k).printing = s.printing ∧
    (s.dropNotice k).emergency = s.emergency ∧ (s.dropNotice k).service = s.service :=
  ⟨rfl, rfl, rfl, rfl, rfl, rfl, rfl, rfl, rfl, rfl, rfl, rfl, rfl, rfl⟩

/-- `writeSlot` changes only register. -/
@[simp] theorem writeSlot_frame (s : State) (n : Nat) (v : Option Visit) :
    (s.writeSlot n v).pending = s.pending ∧ (s.writeSlot n v).now = s.now ∧ (s.writeSlot n v).powered = s.powered ∧
    (s.writeSlot n v).link = s.link ∧ (s.writeSlot n v).port = s.port ∧ (s.writeSlot n v).decks = s.decks ∧
    (s.writeSlot n v).gates = s.gates ∧ (s.writeSlot n v).vehicles = s.vehicles ∧
    (s.writeSlot n v).accounts = s.accounts ∧ (s.writeSlot n v).kinds = s.kinds ∧
    (s.writeSlot n v).printing = s.printing ∧ (s.writeSlot n v).notices = s.notices ∧
    (s.writeSlot n v).emergency = s.emergency ∧ (s.writeSlot n v).service = s.service :=
  ⟨rfl, rfl, rfl, rfl, rfl, rfl, rfl, rfl, rfl, rfl, rfl, rfl, rfl, rfl⟩

/-- `setCursor` changes only register. -/
@[simp] theorem setCursor_frame (s : State) (c : Cursor) :
    (s.setCursor c).pending = s.pending ∧ (s.setCursor c).now = s.now ∧ (s.setCursor c).powered = s.powered ∧
    (s.setCursor c).link = s.link ∧ (s.setCursor c).port = s.port ∧ (s.setCursor c).decks = s.decks ∧
    (s.setCursor c).gates = s.gates ∧ (s.setCursor c).vehicles = s.vehicles ∧
    (s.setCursor c).accounts = s.accounts ∧ (s.setCursor c).kinds = s.kinds ∧
    (s.setCursor c).printing = s.printing ∧ (s.setCursor c).notices = s.notices ∧
    (s.setCursor c).emergency = s.emergency ∧ (s.setCursor c).service = s.service :=
  ⟨rfl, rfl, rfl, rfl, rfl, rfl, rfl, rfl, rfl, rfl, rfl, rfl, rfl, rfl⟩

/-- `putVehicle` changes only vehicles. -/
@[simp] theorem putVehicle_frame (s : State) (v : Vehicle) :
    (s.putVehicle v).pending = s.pending ∧ (s.putVehicle v).now = s.now ∧ (s.putVehicle v).powered = s.powered ∧
    (s.putVehicle v).link = s.link ∧ (s.putVehicle v).port = s.port ∧ (s.putVehicle v).decks = s.decks ∧
    (s.putVehicle v).gates = s.gates ∧ (s.putVehicle v).register = s.register ∧
    (s.putVehicle v).accounts = s.accounts ∧ (s.putVehicle v).kinds = s.kinds ∧
    (s.putVehicle v).printing = s.printing ∧ (s.putVehicle v).notices = s.notices ∧
    (s.putVehicle v).emergency = s.emergency ∧ (s.putVehicle v).service = s.service :=
  ⟨rfl, rfl, rfl, rfl, rfl, rfl, rfl, rfl, rfl, rfl, rfl, rfl, rfl, rfl⟩

/-- `putAccount` changes only accounts. -/
@[simp] theorem putAccount_frame (s : State) (a : Account) :
    (s.putAccount a).pending = s.pending ∧ (s.putAccount a).now = s.now ∧ (s.putAccount a).powered = s.powered ∧
    (s.putAccount a).link = s.link ∧ (s.putAccount a).port = s.port ∧ (s.putAccount a).decks = s.decks ∧
    (s.putAccount a).gates = s.gates ∧ (s.putAccount a).register = s.register ∧
    (s.putAccount a).vehicles = s.vehicles ∧ (s.putAccount a).kinds = s.kinds ∧
    (s.putAccount a).printing = s.printing ∧ (s.putAccount a).notices = s.notices ∧
    (s.putAccount a).emergency = s.emergency ∧ (s.putAccount a).service = s.service :=
  ⟨rfl, rfl, rfl, rfl, rfl, rfl, rfl, rfl, rfl, rfl, rfl, rfl, rfl, rfl⟩

/-- `changeAccount` changes only accounts. -/
@[simp] theorem changeAccount_frame (s : State) (n : AccountNo) (f : Account → Account) :
    (s.changeAccount n f).pending = s.pending ∧ (s.changeAccount n f).now = s.now ∧
    (s.changeAccount n f).powered = s.powered ∧ (s.changeAccount n f).link = s.link ∧
    (s.changeAccount n f).port = s.port ∧ (s.changeAccount n f).decks = s.decks ∧
    (s.changeAccount n f).gates = s.gates ∧ (s.changeAccount n f).register = s.register ∧
    (s.changeAccount n f).vehicles = s.vehicles ∧ (s.changeAccount n f).kinds = s.kinds ∧
    (s.changeAccount n f).printing = s.printing ∧ (s.changeAccount n f).notices = s.notices ∧
    (s.changeAccount n f).emergency = s.emergency ∧ (s.changeAccount n f).service = s.service :=
  ⟨rfl, rfl, rfl, rfl, rfl, rfl, rfl, rfl, rfl, rfl, rfl, rfl, rfl, rfl⟩

/-- `setPrinting` changes only printing. -/
@[simp] theorem setPrinting_frame (s : State) (c : Printing) :
    (s.setPrinting c).pending = s.pending ∧ (s.setPrinting c).now = s.now ∧ (s.setPrinting c).powered = s.powered ∧
    (s.setPrinting c).link = s.link ∧ (s.setPrinting c).port = s.port ∧ (s.setPrinting c).decks = s.decks ∧
    (s.setPrinting c).gates = s.gates ∧ (s.setPrinting c).register = s.register ∧
    (s.setPrinting c).vehicles = s.vehicles ∧ (s.setPrinting c).accounts = s.accounts ∧
    (s.setPrinting c).kinds = s.kinds ∧ (s.setPrinting c).notices = s.notices ∧
    (s.setPrinting c).emergency = s.emergency ∧ (s.setPrinting c).service = s.service :=
  ⟨rfl, rfl, rfl, rfl, rfl, rfl, rfl, rfl, rfl, rfl, rfl, rfl, rfl, rfl⟩

/-- `setPrinter` changes only printing. -/
@[simp] theorem setPrinter_frame (s : State) (p : PrinterId) (x : Printer) :
    (s.setPrinter p x).pending = s.pending ∧ (s.setPrinter p x).now = s.now ∧
    (s.setPrinter p x).powered = s.powered ∧ (s.setPrinter p x).link = s.link ∧ (s.setPrinter p x).port = s.port ∧
    (s.setPrinter p x).decks = s.decks ∧ (s.setPrinter p x).gates = s.gates ∧
    (s.setPrinter p x).register = s.register ∧ (s.setPrinter p x).vehicles = s.vehicles ∧
    (s.setPrinter p x).accounts = s.accounts ∧ (s.setPrinter p x).kinds = s.kinds ∧
    (s.setPrinter p x).notices = s.notices ∧ (s.setPrinter p x).emergency = s.emergency ∧
    (s.setPrinter p x).service = s.service :=
  ⟨rfl, rfl, rfl, rfl, rfl, rfl, rfl, rfl, rfl, rfl, rfl, rfl, rfl, rfl⟩

/-- `setJob` changes only printing. -/
@[simp] theorem setJob_frame (s : State) (j : Option Job) :
    (s.setJob j).pending = s.pending ∧ (s.setJob j).now = s.now ∧ (s.setJob j).powered = s.powered ∧
    (s.setJob j).link = s.link ∧ (s.setJob j).port = s.port ∧ (s.setJob j).decks = s.decks ∧
    (s.setJob j).gates = s.gates ∧ (s.setJob j).register = s.register ∧ (s.setJob j).vehicles = s.vehicles ∧
    (s.setJob j).accounts = s.accounts ∧ (s.setJob j).kinds = s.kinds ∧ (s.setJob j).notices = s.notices ∧
    (s.setJob j).emergency = s.emergency ∧ (s.setJob j).service = s.service :=
  ⟨rfl, rfl, rfl, rfl, rfl, rfl, rfl, rfl, rfl, rfl, rfl, rfl, rfl, rfl⟩

/-- `reach` changes only now. -/
@[simp] theorem reach_frame (s : State) (t : Nat) :
    (s.reach t).pending = s.pending ∧ (s.reach t).powered = s.powered ∧ (s.reach t).link = s.link ∧
    (s.reach t).port = s.port ∧ (s.reach t).decks = s.decks ∧ (s.reach t).gates = s.gates ∧
    (s.reach t).register = s.register ∧ (s.reach t).vehicles = s.vehicles ∧ (s.reach t).accounts = s.accounts ∧
    (s.reach t).kinds = s.kinds ∧ (s.reach t).printing = s.printing ∧ (s.reach t).notices = s.notices ∧
    (s.reach t).emergency = s.emergency ∧ (s.reach t).service = s.service :=
  ⟨rfl, rfl, rfl, rfl, rfl, rfl, rfl, rfl, rfl, rfl, rfl, rfl, rfl, rfl⟩

/-- `setReceived` changes only port. -/
@[simp] theorem setReceived_frame (s : State) (l : List Byte) :
    (s.setReceived l).pending = s.pending ∧ (s.setReceived l).now = s.now ∧ (s.setReceived l).powered = s.powered ∧
    (s.setReceived l).link = s.link ∧ (s.setReceived l).decks = s.decks ∧ (s.setReceived l).gates = s.gates ∧
    (s.setReceived l).register = s.register ∧ (s.setReceived l).vehicles = s.vehicles ∧
    (s.setReceived l).accounts = s.accounts ∧ (s.setReceived l).kinds = s.kinds ∧
    (s.setReceived l).printing = s.printing ∧ (s.setReceived l).notices = s.notices ∧
    (s.setReceived l).emergency = s.emergency ∧ (s.setReceived l).service = s.service :=
  ⟨rfl, rfl, rfl, rfl, rfl, rfl, rfl, rfl, rfl, rfl, rfl, rfl, rfl, rfl⟩

/-- `setService` changes only service. -/
@[simp] theorem setService_frame (s : State) (v : Service) :
    (s.setService v).pending = s.pending ∧ (s.setService v).now = s.now ∧ (s.setService v).powered = s.powered ∧
    (s.setService v).link = s.link ∧ (s.setService v).port = s.port ∧ (s.setService v).decks = s.decks ∧
    (s.setService v).gates = s.gates ∧ (s.setService v).register = s.register ∧
    (s.setService v).vehicles = s.vehicles ∧ (s.setService v).accounts = s.accounts ∧
    (s.setService v).kinds = s.kinds ∧ (s.setService v).printing = s.printing ∧
    (s.setService v).notices = s.notices ∧ (s.setService v).emergency = s.emergency :=
  ⟨rfl, rfl, rfl, rfl, rfl, rfl, rfl, rfl, rfl, rfl, rfl, rfl, rfl, rfl⟩

/-! ### Values of one deck, gate or printer after a write -/

@[simp] theorem perDeck_get_set {α : Type} (p : PerDeck α) (d e : DeckId) (x : α) :
    (p.set d x).get e = if e = d then x else p.get e := by
  cases d <;> cases e <;> rfl

@[simp] theorem perGate_get_set {α : Type} (p : PerGate α) (g h : GateId) (x : α) :
    (p.set g x).get h = if h = g then x else p.get h := by
  cases g <;> cases h <;> rfl

@[simp] theorem perPrinter_get_set {α : Type} (p : PerPrinter α) (i j : PrinterId) (x : α) :
    (p.set i x).get j = if j = i then x else p.get j := by
  cases i <;> cases j <;> rfl

/-- A deck read after a deck was replaced. -/
@[simp] theorem deck_setDeck (s : State) (d e : DeckId) (x : Deck) :
    (s.setDeck d x).deck e = if e = d then x else s.deck e := by
  simp [State.deck, State.setDeck]

/-- A deck read after a session was replaced. -/
@[simp] theorem deck_setSession (s : State) (d e : DeckId) (x : Option Serving) :
    (s.setSession d x).deck e = if e = d then { s.deck d with session := x } else s.deck e := by
  simp [State.setSession]

/-- A deck read after a weighing unit was replaced. -/
@[simp] theorem deck_setUnit (s : State) (d e : DeckId) (u : Weigher) :
    (s.setUnit d u).deck e = if e = d then { s.deck d with unit := u } else s.deck e := by
  simp [State.setUnit]

/-- A deck read after a cell link was replaced. -/
@[simp] theorem deck_setCells (s : State) (d e : DeckId) (c : CellLink) :
    (s.setCells d c).deck e = if e = d then { s.deck d with cells := c } else s.deck e := by
  simp [State.setCells]

/-- A gate read after a gate was replaced. -/
@[simp] theorem gate_setGate (s : State) (g h : GateId) (x : Gate) :
    (s.setGate g x).gate h = if h = g then x else s.gate h := by
  simp [State.gate, State.setGate]

/-- A printer read after a printer was replaced. -/
@[simp] theorem printer_setPrinter (s : State) (p q : PrinterId) (x : Printer) :
    (s.setPrinter p x).printer q = if q = p then x else s.printer q := by
  simp [State.printer, State.setPrinter, State.setPrinting]

/-- A deck reads the same where the decks are the same. -/
theorem deck_congr {s t : State} (h : t.decks = s.decks) (d : DeckId) : t.deck d = s.deck d := by
  simp [State.deck, h]

/-- A gate reads the same where the gates are the same. -/
theorem gate_congr {s t : State} (h : t.gates = s.gates) (g : GateId) : t.gate g = s.gate g := by
  simp [State.gate, h]

/-- A printer reads the same where the Print Controller is the same. -/
theorem printer_congr {s t : State} (h : t.printing = s.printing) (p : PrinterId) : t.printer p = s.printer p := by
  simp [State.printer, h]

/-- A slot reads the same where the register is the same. -/
theorem slot_congr {s t : State} (h : t.register = s.register) (n : Nat) : t.slot n = s.slot n := by
  simp [State.slot, h]

/-- The gates of a deck are of that deck. -/
@[simp] theorem gate_deck (d : DeckId) (e : GateEnd) : (d.gate e).deck = d := by
  cases d <;> cases e <;> rfl

/-- The gates of a deck stand at their ends. -/
@[simp] theorem gate_side (d : DeckId) (e : GateEnd) : (d.gate e).side = e := by
  cases d <;> cases e <;> rfl

/-- Every gate is the gate of its deck at its end. -/
@[simp] theorem deck_gate_side (g : GateId) : g.deck.gate g.side = g := by
  cases g <;> rfl

/-! ### Slots -/

/-- A write to a slot leaves the number of slots (R40). -/
@[simp] theorem writeSlot_length (s : State) (n : Nat) (v : Option Visit) :
    (s.writeSlot n v).register.slots.length = s.register.slots.length := by
  simp [State.writeSlot]

/-- A write to a slot leaves the next-ticket counter and the walk cursor. -/
@[simp] theorem writeSlot_register (s : State) (n : Nat) (v : Option Visit) :
    (s.writeSlot n v).register.nextTicket = s.register.nextTicket ∧
      (s.writeSlot n v).register.cursor = s.register.cursor := ⟨rfl, rfl⟩

/-- A slot read after a write. -/
theorem slot_writeSlot (s : State) (n m : Nat) (v : Option Visit) (h : m < s.register.slots.length) :
    (s.writeSlot n v).slot m = if n = m then (s.slot m).write v else s.slot m := by
  simp only [State.slot, State.writeSlot, List.getD_eq_getElem?_getD, List.getElem?_modify]
  split <;> simp_all

/-- A write gives the slot the visit (R40). -/
@[simp] theorem write_visit (sl : Slot) (v : Option Visit) : (sl.write v).visit = v := by
  unfold Slot.write
  split <;> simp_all

/-- A visit read after a write. -/
theorem visit_writeSlot (s : State) (n m : Nat) (v : Option Visit) (h : m < s.register.slots.length) :
    (s.writeSlot n v).visit m = if n = m then v else s.visit m := by
  simp only [State.visit, slot_writeSlot s n m v h]
  split <;> simp

/-! ### Notices -/

/-- A raising leaves the number of notice lines. -/
@[simp] theorem raise_length (s : State) (k : NoticeKind) (x : Detail) :
    (s.raise k x).notices.length = s.notices.length := by
  simp [State.raise]

/-- A notice line read after a raising (R169). -/
theorem getElem?_raise (s : State) (k : NoticeKind) (x : Detail) (i : Nat) :
    (s.raise k x).notices[i]? = (s.notices[i]?).map fun l => if k.order = i then l.take x else l := by
  simp only [State.raise, List.getElem?_modify]
  split <;> simp_all

/-! ### Keyed lists -/

/-- What an insertion in key order holds: the new entry and the entries of other keys. -/
theorem mem_insertBy {α : Type} (key : α → Nat) (x y : α) (l : List α) :
    y ∈ insertBy key x l → y = x ∨ y ∈ l := by
  induction l with
  | nil => simp [insertBy]
  | cons z zs ih =>
    simp only [insertBy]
    split
    · simp_all
    · split
      · simp only [List.mem_cons]; tauto
      · simp only [List.mem_cons]; tauto

/-- An insertion keeps the rising key order. -/
theorem insertBy_sorted {α : Type} (key : α → Nat) (x : α) (l : List α)
    (h : l.Pairwise fun a b => key a < key b) : (insertBy key x l).Pairwise fun a b => key a < key b := by
  induction l with
  | nil => simp [insertBy]
  | cons z zs ih =>
    rw [List.pairwise_cons] at h
    simp only [insertBy]
    split
    · rename_i hlt
      refine List.pairwise_cons.2 ⟨?_, List.pairwise_cons.2 h⟩
      intro a ha
      rcases List.mem_cons.1 ha with rfl | ha
      · exact hlt
      · exact lt_trans hlt (h.1 a ha)
    · split
      · rename_i heq
        exact List.pairwise_cons.2 ⟨fun a ha => heq ▸ h.1 a ha, h.2⟩
      · refine List.pairwise_cons.2 ⟨?_, ih h.2⟩
        intro a ha
        rcases mem_insertBy key x a zs ha with rfl | ha
        · omega
        · exact h.1 a ha

/-! ### The frames of a command -/

/-- The weighing unit after a reset holds W_ref 0 with its mark absent (R12, R24). -/
@[simp] theorem weigher_reset_ref (a : Availability) (z : Int) (t : Timer) :
    (Weigher.reset a z t).ref = 0 ∧ (Weigher.reset a z t).refPresent = false := ⟨rfl, rfl⟩

/-- A selection with the supply on and no wait for NCS is taken (R174). -/
theorem selection_taken (f : State → State) (s : State) (hp : s.powered = true) (hw : s.port.ncs = .inactive) :
    selection f s = .next (f s) := by
  simp [selection, State.taking, hp, hw]

/-- A selection whose frame spans the end of a reset is ignored whole, and its end is NCS seen inactive (R174). -/
theorem selection_ignored (f : State → State) (s : State) (hp : s.powered = true) (hw : s.port.ncs = .unfinished) :
    selection f s = .next s.sawInactive := by
  simp [selection, State.taking, hp, hw]

/-- After a selection that spanned the end of a reset with its frame finished, the next one is taken (R174). -/
theorem selection_later (f : State → State) (s : State) (hp : s.powered = true) (hw : s.port.ncs = .finished) :
    selection f s = .next (f s.sawInactive) := by
  simp [selection, State.taking, hp, hw]

/-- With the supply off a selection does nothing (log 5). -/
theorem selection_dark (f : State → State) (s : State) (hp : s.powered = false) : selection f s = .next s := by
  simp [selection, hp]

/-- A request of a part that listens is performed and answered (R175). -/
theorem request_performed (k : Byte) (f : State → State × Reply) (s : State) (h : s.listening) :
    request k f s = .next { (f s).1 with link := some ((f s).2.toAnswer k) } := by
  simp [request, selection_taken _ s h.1 h.2.2, State.answering, h.2.1]

/-- A request that finds an unread answer only sets its overrun mark (R176). -/
theorem request_overrun (k : Byte) (f : State → State × Reply) (s : State) (a : Answer) (hp : s.powered = true)
    (hw : s.port.ncs = .inactive) (hl : s.link = some a) :
    request k f s = .next { s with link := some { a with overrun := true } } := by
  simp [request, selection_taken _ s hp hw, State.answering, hl]

/-- With the supply off a request does nothing (log 5). -/
theorem request_dark (k : Byte) (f : State → State × Reply) (s : State) (hp : s.powered = false) :
    request k f s = .next s := by
  simp [request, selection_dark _ s hp]

/-- A query of a part that listens writes its answer and nothing else (R175). -/
theorem query_performed (k : Byte) (f : State → Reply) (s : State) (h : s.listening) :
    query k f s = .next { s with link := some ((f s).toAnswer k) } := by
  simp [query, request_performed k _ s h]

/-- An event with the supply on (log 5). -/
theorem event_powered (f : State → State) (s : State) (hp : s.powered = true) : event f s = .next (f s) := by
  simp [event, hp]

/-- With the supply off an event does nothing (log 5). -/
theorem event_dark (f : State → State) (s : State) (hp : s.powered = false) : event f s = .next s := by
  simp [event, hp]

/-! ### The Link Port byte by byte -/

/-- A byte that completes nothing only joins the request buffer (R174). -/
theorem clockByte_quiet (s : State) (closed : Bool) (pins : Pins) (b : Byte) (hp : s.powered = true)
    (hw : s.port.ncs = .inactive) (hc : s.byteCommand closed pins (s.port.received ++ [b]) = none) :
    s.clockByte closed pins b = .next (s.setReceived (s.port.received ++ [b])) := by
  simp [State.clockByte, State.handOver, hp, hw, hc]

/-- A port that has not seen NCS inactive since a reset takes no byte (R174). -/
theorem clockByte_waits (s : State) (closed : Bool) (pins : Pins) (b : Byte) (hw : s.port.ncs ≠ .inactive) :
    s.clockByte closed pins b = .next s := by
  simp [State.clockByte, hw]

/-- The end of a selection that spans the end of a reset changes nothing but the port's wait (R174). -/
theorem deselect_waits (s : State) (hp : s.powered = true) (hw : s.port.ncs ≠ .inactive) :
    s.deselect = .next { s with port := LinkPort.rest } := by
  simp [State.deselect, hp, hw]

/-- Outside a read selection of a port that has seen NCS inactive, SDO carries filler (R174). -/
theorem sdoByte_filler (s : State) (b : Byte)
    (h : readsAnswer (s.port.received ++ [b]) = false ∨ s.port.ncs ≠ .inactive) : s.sdoByte b = filler := by
  have hc : (readsAnswer (s.port.received ++ [b]) && s.port.ncs == .inactive) = false := by
    rcases h with h | h <;> simp [h]
  simp [State.sdoByte, State.selectionOut, hc, List.getD_eq_getElem?_getD]

end Sys2Proof.Machine
end

