-- ==== Sys2Proof/Laws/Frames.lean ====
section
/-! SUPPORT. Frames: what the shared operations over records and over sessions leave unchanged, one lemma an
operation. -/

namespace Sys2Proof.Machine

open Sys2Proof

/-- `t` differs from `s` at most in the register, the vehicle and account tables, the Print Controller and the notices. -/
structure RecordsOnly (s t : State) : Prop where
  pending : t.pending = s.pending
  now : t.now = s.now
  powered : t.powered = s.powered
  link : t.link = s.link
  port : t.port = s.port
  decks : t.decks = s.decks
  gates : t.gates = s.gates
  kinds : t.kinds = s.kinds
  emergency : t.emergency = s.emergency
  service : t.service = s.service

/-- `t` differs from `s` at most in the sessions, the gates, and what `RecordsOnly` allows. -/
structure YardOnly (s t : State) : Prop where
  pending : t.pending = s.pending
  now : t.now = s.now
  powered : t.powered = s.powered
  link : t.link = s.link
  port : t.port = s.port
  kinds : t.kinds = s.kinds
  emergency : t.emergency = s.emergency
  service : t.service = s.service
  cal : ∀ d, (t.deck d).cal = (s.deck d).cal
  cells : ∀ d, (t.deck d).cells = (s.deck d).cells
  unit : ∀ d, (t.deck d).unit = (s.deck d).unit
  times : ∀ d, (t.deck d).times = (s.deck d).times

theorem RecordsOnly.refl (s : State) : RecordsOnly s s := ⟨rfl, rfl, rfl, rfl, rfl, rfl, rfl, rfl, rfl, rfl⟩

theorem RecordsOnly.trans {s t u : State} (h : RecordsOnly s t) (k : RecordsOnly t u) : RecordsOnly s u :=
  ⟨k.pending.trans h.pending, k.now.trans h.now, k.powered.trans h.powered, k.link.trans h.link, k.port.trans h.port,
   k.decks.trans h.decks, k.gates.trans h.gates, k.kinds.trans h.kinds, k.emergency.trans h.emergency,
   k.service.trans h.service⟩

theorem YardOnly.refl (s : State) : YardOnly s s :=
  ⟨rfl, rfl, rfl, rfl, rfl, rfl, rfl, rfl, fun _ => rfl, fun _ => rfl, fun _ => rfl, fun _ => rfl⟩

theorem YardOnly.trans {s t u : State} (h : YardOnly s t) (k : YardOnly t u) : YardOnly s u :=
  ⟨k.pending.trans h.pending, k.now.trans h.now, k.powered.trans h.powered, k.link.trans h.link, k.port.trans h.port,
   k.kinds.trans h.kinds, k.emergency.trans h.emergency, k.service.trans h.service,
   fun d => (k.cal d).trans (h.cal d), fun d => (k.cells d).trans (h.cells d),
   fun d => (k.unit d).trans (h.unit d), fun d => (k.times d).trans (h.times d)⟩

theorem RecordsOnly.yard {s t : State} (h : RecordsOnly s t) : YardOnly s t :=
  ⟨h.pending, h.now, h.powered, h.link, h.port, h.kinds, h.emergency, h.service,
   fun d => by simp [State.deck, h.decks], fun d => by simp [State.deck, h.decks],
   fun d => by simp [State.deck, h.decks], fun d => by simp [State.deck, h.decks]⟩

/-! ### Updates of one record -/

theorem writeSlot_records (s : State) (n : Nat) (v : Option Visit) : RecordsOnly s (s.writeSlot n v) := by
  constructor <;> rfl

theorem raise_records (s : State) (k : NoticeKind) (x : Detail) : RecordsOnly s (s.raise k x) := by
  constructor <;> rfl

theorem setPrinting_records (s : State) (c : Printing) : RecordsOnly s (s.setPrinting c) := by
  constructor <;> rfl

theorem setPrinter_records (s : State) (p : PrinterId) (x : Printer) : RecordsOnly s (s.setPrinter p x) := by
  constructor <;> rfl

theorem setJob_records (s : State) (j : Option Job) : RecordsOnly s (s.setJob j) := by
  constructor <;> rfl

theorem putVehicle_records (s : State) (v : Vehicle) : RecordsOnly s (s.putVehicle v) := by
  constructor <;> rfl

theorem changeAccount_records (s : State) (n : AccountNo) (f : Account → Account) :
    RecordsOnly s (s.changeAccount n f) := by
  constructor <;> rfl

theorem countUp_records (s : State) (n : Option AccountNo) : RecordsOnly s (s.countUp n) := by
  cases n
  · exact .refl s
  · exact changeAccount_records _ _ _

theorem countDown_records (s : State) (n : Option AccountNo) : RecordsOnly s (s.countDown n) := by
  cases n
  · exact .refl s
  · exact changeAccount_records _ _ _

theorem debit_records (s : State) (n : AccountNo) (a : Nat) : RecordsOnly s (s.debit n a) := by
  unfold State.debit
  split
  · exact .refl s
  · dsimp only
    split
    · exact (changeAccount_records _ _ _).trans (raise_records _ _ _)
    · exact changeAccount_records _ _ _

/-! ### The Visit Register -/

theorem enterOnSite_records (s : State) (n : Nat) (v : Visit) : RecordsOnly s (s.enterOnSite n v) := by
  unfold State.enterOnSite
  split
  · exact (writeSlot_records _ _ _).trans (raise_records _ _ _)
  · exact writeSlot_records _ _ _

theorem checkStay_records (s : State) (n : Nat) : RecordsOnly s (s.checkStay n) := by
  unfold State.checkStay
  split
  · split
    · exact (writeSlot_records _ _ _).trans (raise_records _ _ _)
    · exact .refl s
  · exact .refl s

theorem foldl_records (l : List Nat) (f : State → Nat → State) (h : ∀ s n, RecordsOnly s (f s n)) (s : State) :
    RecordsOnly s (l.foldl f s) := by
  induction l generalizing s with
  | nil => exact .refl s
  | cons n l ih => exact (h s n).trans (ih _)

/-- The over-stay check touches no more than records (R63). -/
theorem checkStays_records (s : State) : RecordsOnly s s.checkStays := foldl_records _ _ checkStay_records s

theorem openIn_records (s : State) (n : Nat) (o : Opening) (d : DeckId) : RecordsOnly s (s.openIn n o d) := by
  unfold State.openIn
  dsimp only
  split
  · exact ((writeSlot_records _ _ _).trans (countUp_records _ _)).trans (raise_records _ _ _)
  · exact (writeSlot_records _ _ _).trans (countUp_records _ _)

theorem depart_records (s : State) (n : Nat) (d : DeckId) : RecordsOnly s (s.depart n d) := by
  unfold State.depart
  split
  · split
    · exact writeSlot_records _ _ _
    · exact .refl s
  · exact .refl s

/-- The undo touches no more than records (R46). -/
theorem undo_records (s : State) (n : Nat) : RecordsOnly s (s.undo n) := by
  unfold State.undo
  split
  · split
    · exact (writeSlot_records _ _ _).trans (countDown_records _ _)
    · exact enterOnSite_records _ _ _
    · exact .refl s
  · exact .refl s

/-! ### The Print Controller -/

theorem writePrinting_records (s : State) (n : Nat) (m : PrintMark) : RecordsOnly s (s.writePrinting n m) := by
  unfold State.writePrinting
  split
  · split
    · split
      · exact writeSlot_records _ _ _
      · exact .refl s
    · exact .refl s
  · exact .refl s

theorem startJob_records (s : State) (p : PrinterId) (n : Nat) (v : Visit) (t : Ticket) :
    RecordsOnly s (s.startJob p n v t) :=
  (writeSlot_records _ _ _).trans (setPrinting_records _ _)

theorem failJob_records (s : State) (j : Job) (c : FaultCause) : RecordsOnly s (s.failJob j c) :=
  (((writePrinting_records _ _ _).trans (setPrinter_records _ _ _)).trans (raise_records _ _ _)).trans
    (setJob_records _ _)

theorem endJob_records (s : State) (j : Job) : RecordsOnly s (s.endJob j) :=
  ((writePrinting_records _ _ _).trans (setPrinter_records _ _ _)).trans (setJob_records _ _)

theorem arbitrate_records (fuel : Nat) (s : State) : RecordsOnly s (s.arbitrate fuel) := by
  induction fuel generalizing s with
  | zero => exact .refl s
  | succ n ih =>
    unfold State.arbitrate
    split
    · split
      · split
        · split
          · dsimp only
            split
            · split
              · exact ((startJob_records _ _ _ _ _).trans (failJob_records _ _ _)).trans (ih _)
              · exact startJob_records _ _ _ _ _
            · exact startJob_records _ _ _ _ _
          · exact .refl s
        · exact .refl s
      · exact .refl s
    · exact .refl s

/-- The arbiter's choice touches no more than records (R154). -/
theorem serveBus_records (s : State) : RecordsOnly s s.serveBus := arbitrate_records 3 s

theorem faultJob_records (s : State) (j : Job) (c : FaultCause) : RecordsOnly s (s.faultJob j c) :=
  (failJob_records _ _ _).trans (serveBus_records _)

theorem finishJob_records (s : State) (j : Job) : RecordsOnly s (s.finishJob j) :=
  (endJob_records _ _).trans (serveBus_records _)

theorem byteEnd_records (s : State) (j : Job) : RecordsOnly s (s.byteEnd j) := by
  unfold State.byteEnd
  dsimp only
  split
  · exact setJob_records _ _
  · split
    · exact (setJob_records _ _).trans (faultJob_records _ _ _)
    · exact setJob_records _ _

theorem strobeEnd_records (s : State) (j : Job) : RecordsOnly s (s.strobeEnd j) := by
  unfold State.strobeEnd
  split
  · exact byteEnd_records _ _
  · exact setJob_records _ _

/-! ### The close -/

theorem autoTare_records (s : State) (v : Visit) (t : Ticket) : RecordsOnly s (s.autoTare v t) := by
  unfold State.autoTare
  split
  · split
    · exact putVehicle_records _ _
    · exact .refl s
  · exact .refl s

theorem debitVisit_records (s : State) (v : Visit) (a : Nat) : RecordsOnly s (s.debitVisit v a) := by
  unfold State.debitVisit
  split
  · exact debit_records _ _ _
  · exact .refl s

theorem closeRecord_records (s : State) (n : Nat) (v : Visit) (c : Closing) : RecordsOnly s (s.closeRecord n v c) := by
  unfold State.closeRecord
  dsimp only
  refine RecordsOnly.trans ?_ (autoTare_records _ _ _)
  refine RecordsOnly.trans ?_ (raise_records _ _ _)
  have h : RecordsOnly s { (s.writeSlot n (some (v.withTicket (s.ticketOf v c)))) with
      register := { (s.writeSlot n (some (v.withTicket (s.ticketOf v c)))).register with
        nextTicket := nextNumber (s.ticketOf v c).number } } := by constructor <;> rfl
  split
  · exact (h.trans (debitVisit_records _ _ _)).trans (countDown_records _ _)
  · exact h.trans (debitVisit_records _ _ _)

/-- The close touches no more than records (R48 to R51). -/
theorem close_records (s : State) (n : Nat) (v : Visit) (c : Closing) : RecordsOnly s (s.close n v c) :=
  (closeRecord_records _ _ _ _).trans (serveBus_records _)

theorem hold_records (s : State) (n : Nat) (v : Visit) (a b : Weighing) (net : Int) (r : HeldReason) :
    RecordsOnly s (s.hold n v a b net r) :=
  ((writeSlot_records _ _ _).trans (countDown_records _ _)).trans (raise_records _ _ _)

theorem closeAtCapture_records (s : State) (n : Nat) (v : Visit) (d : DeckId) (a b : Weighing) :
    RecordsOnly s (s.closeAtCapture n v d a b).1 := by
  unfold State.closeAtCapture
  dsimp only
  split
  · exact hold_records _ _ _ _ _ _ _
  · exact close_records _ _ _ _

/-- A capture touches no more than records (R47). -/
theorem capture_records (s : State) (n : Nat) (d : DeckId) (w : Weighing) : RecordsOnly s (s.capture n d w).1 := by
  unfold State.capture
  split
  · split
    · split
      · exact closeAtCapture_records _ _ _ _ _ _
      · exact enterOnSite_records _ _ _
    · exact closeAtCapture_records _ _ _ _ _ _
    · exact .refl s
  · exact .refl s

/-! ### Gates and sessions -/

theorem setGate_yard (s : State) (g : GateId) (x : Gate) : YardOnly s (s.setGate g x) := by
  constructor <;> first | rfl | (intro d; rfl)

theorem setSession_yard (s : State) (d : DeckId) (x : Option Serving) : YardOnly s (s.setSession d x) := by
  constructor <;> first | rfl | (intro e; rw [deck_setSession]; split <;> simp_all)

theorem setPass_yard (s : State) (g : GateId) (b : Bool) : YardOnly s (s.setPass g b) := setGate_yard _ _ _

theorem dropWaiting_yard (s : State) (g : GateId) : YardOnly s (s.dropWaiting g) := setGate_yard _ _ _

theorem sendRaise_yard (s : State) (g : GateId) (o : Origin) : YardOnly s (s.sendRaise g o) := setGate_yard _ _ _

theorem sendLower_yard (s : State) (g : GateId) (o : Origin) : YardOnly s (s.sendLower g o) := setGate_yard _ _ _

theorem holdCall_yard (s : State) (g : GateId) (f : CallForm) : YardOnly s (s.holdCall g f) := setGate_yard _ _ _

theorem raise_yard (s : State) (k : NoticeKind) (x : Detail) : YardOnly s (s.raise k x) := (raise_records s k x).yard

theorem setUpSession_yard (s : State) (d : DeckId) (h : Heading) (n : Nat) : YardOnly s (s.setUpSession d h n) := by
  unfold State.setUpSession
  exact ((setPass_yard _ _ _).trans (sendRaise_yard _ _ _)).trans (setSession_yard _ _ _)

theorem takeCall_yard (s : State) (g : GateId) (f : CallForm) : YardOnly s (s.takeCall g f).1 := by
  unfold State.takeCall
  split
  · split
    · exact .refl s
    · split
      · dsimp only
        exact (openIn_records _ _ _ _).yard.trans (setUpSession_yard _ _ _ _)
      · exact .refl s
  · split
    · exact .refl s
    · dsimp only
      exact (depart_records _ _ _).yard.trans (setUpSession_yard _ _ _ _)

theorem judgeCall_yard (s : State) (g : GateId) (f : CallForm) : YardOnly s (s.judgeCall g f).1 := by
  unfold State.judgeCall
  split
  · exact .refl s
  · split
    · exact .refl s
    · split
      · exact .refl s
      · exact takeCall_yard _ _ _

theorem noteRefusal_yard (s : State) (g : GateId) (x : Decision) : YardOnly s (s.noteRefusal g x) := by
  unfold State.noteRefusal
  split
  · exact raise_yard _ _ _
  · exact .refl s

/-- A call at the arbiter touches no deck but its session (R115). -/
theorem arbitrateCall_yard (s : State) (g : GateId) (f : CallForm) : YardOnly s (s.arbitrateCall g f).1 := by
  unfold State.arbitrateCall
  dsimp only
  split
  · exact (judgeCall_yard _ _ _).trans (holdCall_yard _ _ _)
  · exact (judgeCall_yard _ _ _).trans (noteRefusal_yard _ _ _)

theorem offerOne_yard (s : State) (g : GateId) : YardOnly s (s.offerOne g) := by
  unfold State.offerOne
  split
  · exact .refl s
  · dsimp only
    split
    · exact .refl s
    · exact ((judgeCall_yard _ _ _).trans (dropWaiting_yard _ _)).trans (noteRefusal_yard _ _ _)

/-- The offer of waiting calls touches no deck but its session (R118). -/
theorem offer_yard (s : State) (d : DeckId) : YardOnly s (s.offer d) := by
  unfold State.offer
  split
  · dsimp only
    split
    · exact (offerOne_yard _ _).trans (offerOne_yard _ _)
    · exact offerOne_yard _ _
  · exact .refl s

theorem refuseWaiting_yard (s : State) (d : DeckId) : YardOnly s (s.refuseWaiting d) := by
  unfold State.refuseWaiting
  dsimp only
  split <;> split <;>
    first
    | exact ((dropWaiting_yard _ _).trans (raise_yard _ _ _)).trans ((dropWaiting_yard _ _).trans (raise_yard _ _ _))
    | exact (dropWaiting_yard _ _).trans (raise_yard _ _ _)
    | exact .refl s

theorem dropCalls_yard (s : State) (d : DeckId) : YardOnly s (s.dropCalls d) :=
  (dropWaiting_yard _ _).trans (dropWaiting_yard _ _)

theorem enterReleased_yard (s : State) (d : DeckId) (v : Serving) : YardOnly s (s.enterReleased d v) :=
  ((setPass_yard _ _ _).trans (sendRaise_yard _ _ _)).trans (setSession_yard _ _ _)

theorem enterClearing_yard (s : State) (d : DeckId) (v : Serving) : YardOnly s (s.enterClearing d v) :=
  ((setPass_yard _ _ _).trans (sendLower_yard _ _ _)).trans (setSession_yard _ _ _)

theorem enterOnDeck_yard (s : State) (d : DeckId) (v : Serving) : YardOnly s (s.enterOnDeck d v) :=
  ((setPass_yard _ _ _).trans (sendLower_yard _ _ _)).trans (setSession_yard _ _ _)

theorem vacate_yard (s : State) (d : DeckId) : YardOnly s (s.vacate d) :=
  ((setPass_yard _ _ _).trans (setPass_yard _ _ _)).trans (setSession_yard _ _ _)

theorem captureInto_yard (s : State) (d : DeckId) (v : Serving) (w : Weighing) : YardOnly s (s.captureInto d v w) :=
  (capture_records _ _ _ _).yard.trans (enterReleased_yard _ _ _)

theorem captureTest_yard (s : State) (d : DeckId) : YardOnly s (s.captureTest d) := by
  unfold State.captureTest
  split
  · split
    · exact captureInto_yard _ _ _ _
    · exact .refl s
  · exact .refl s

theorem clearingTest_yard (s : State) (d : DeckId) (v : Serving) : YardOnly s (s.clearingTest d v) := by
  unfold State.clearingTest
  dsimp only
  split
  · exact (vacate_yard _ _).trans (offer_yard _ _)
  · split
    · exact enterReleased_yard _ _ _
    · split
      · exact (vacate_yard _ _).trans (offer_yard _ _)
      · exact .refl s

theorem clearWaived_yard (s : State) (d : DeckId) (v : Serving) : YardOnly s (s.clearWaived d v) :=
  (enterClearing_yard _ _ _).trans (clearingTest_yard _ _ _)

theorem sessionBarrier_yard (s : State) (g : GateId) : YardOnly s (s.sessionBarrier g) := by
  unfold State.sessionBarrier
  split
  · split
    · exact captureTest_yard _ _
    · split
      · exact clearingTest_yard _ _ _
      · exact .refl s
    · exact .refl s
  · exact .refl s

/-- A loop event at the session touches no deck but its session (R122 to R129). -/
theorem sessionLoop_yard (s : State) (g : GateId) (b : Bool) : YardOnly s (s.sessionLoop g b) := by
  unfold State.sessionLoop
  dsimp only
  split
  · split
    · split
      · exact setSession_yard _ _ _
      · exact .refl s
    · split
      · exact setSession_yard _ _ _
      · exact .refl s
    · exact captureTest_yard _ _
    · split
      · exact setSession_yard _ _ _
      · exact .refl s
    · split
      · split
        · exact clearWaived_yard _ _ _
        · exact setSession_yard _ _ _
      · exact .refl s
    · split
      · exact setSession_yard _ _ _
      · exact clearingTest_yard _ _ _
  · exact .refl s

/-- An evaluation at the session touches no deck but its session (R122 to R129). -/
theorem sessionEvaluation_yard (s : State) (d : DeckId) : YardOnly s (s.sessionEvaluation d) := by
  unfold State.sessionEvaluation
  dsimp only
  split
  · split
    · split
      · split
        · exact enterOnDeck_yard _ _ _
        · exact setSession_yard _ _ _
      · exact .refl s
    · exact captureTest_yard _ _
    · split
      · split
        · exact enterReleased_yard _ _ _
        · exact enterClearing_yard _ _ _
      · exact .refl s
    · exact clearingTest_yard _ _ _
    · exact .refl s
  · exact .refl s

theorem noteFault_yard (s : State) (g : GateId) (p : Prop) [Decidable p] :
    YardOnly s (if p then s.raise .barrierFault (.gate g) else s) := by
  split
  · exact raise_yard _ _ _
  · exact .refl s

theorem barrierMoved_yard (s : State) (g : GateId) (b : Barrier) : YardOnly s (s.barrierMoved g b) := by
  unfold State.barrierMoved
  dsimp only
  have h := noteFault_yard s g ((s.gate g).barrier = .fault ∧ b ≠ .fault)
  generalize (if (s.gate g).barrier = .fault ∧ b ≠ .fault then s.raise .barrierFault (.gate g) else s) = t at *
  split
  · exact h
  · exact h.trans (sessionBarrier_yard _ _)

/-- An event at a gate touches no deck but its session (R93, R100). -/
theorem gateEvent_yard (s : State) (g : GateId) (f : Gate → Gate) : YardOnly s (s.gateEvent g f) :=
  (setGate_yard _ _ _).trans (barrierMoved_yard _ _ _)

theorem giveUp_yard (s : State) (d : DeckId) (v : Serving) : YardOnly s (s.giveUp d v) :=
  (undo_records _ _).yard.trans (enterClearing_yard _ _ _)

theorem abortSession_yard (s : State) (d : DeckId) : YardOnly s (s.abortSession d) := by
  unfold State.abortSession
  split
  · split
    · exact (undo_records _ _).yard.trans (vacate_yard _ _)
    · exact (undo_records _ _).yard.trans (vacate_yard _ _)
    · exact (undo_records _ _).yard.trans (vacate_yard _ _)
    · exact vacate_yard _ _
  · exact vacate_yard _ _

end Sys2Proof.Machine
end

