-- ==== Sys2Proof/Tests/Slice0.lean ====
section
/-! SUPPORT. Tests: ill-formed commands that the check refuses, small runs of one command, frames of the link written out
byte by byte, and for each statement a state and operands that meet its hypotheses. -/

namespace Sys2Proof.Tests

set_option maxRecDepth 8000

open Sys2Proof Sys2Proof.Machine

/-! ### Small states -/

/-- A plate field. -/
def plate1 : List Byte := [0x41, 0x31, 0x20, 0x20, 0x20, 0x20, 0x20, 0x20, 0x20, 0x20]

/-- A key of a tag. -/
def tagKey : List Byte := [0, 0, 0, 7, 0, 0, 0, 0, 0, 0]

/-- A key of zeros. -/
def zeroKey : List Byte := [0, 0, 0, 0, 0, 0, 0, 0, 0, 0]

/-- A CAL_PUT body within every range: two cells, division 20 kg, Max 60 t. -/
def calBody : CalBody :=
  { deck := .d1, division := 20, cells := 3, stableCount := 2, motionBand := 2, max := 60000, threshold := 400
    zCal := 0, zeros := List.replicate 8 0, spans := List.replicate 8 1024 }

/-- The record it carries. -/
def record : CalRecord := recordOf calBody 0

/-- A calibrated deck that is READY with an empty reading. -/
def readyDeck : Deck :=
  { Deck.initial with
    cal := { record := some record, changes := 1, zSet := 0 }
    unit := Weigher.reset .ready 0 none }

/-- A PUT_VEHICLE body within every range. -/
def vehicleBody : VehicleBody :=
  { tag := 7, plate := plate1, account := 5, kind := 9, direction := 1, state := 1, autoTare := 1, validity := 30
    tareMode := 1, tareWeight := 0, tareDay := 0, tareDeck := 1 }

/-- A vehicle entry. -/
def entry : Vehicle :=
  { tag := 7, plate := [0x41, 0x31], account := 5, kind := 9, direction := .deliver, barred := false, autoTare := true
    tare := none, validity := 30 }

/-- An account. -/
def account5 : Account := { number := 5, state := .active, balance := 100000, floor := 0, limit := 2, count := 0 }

/-- The part with both decks READY, its gates UNLOCKED, one vehicle and one account. -/
def yard : State :=
  { State.reset with
    decks := { d1 := readyDeck, d2 := readyDeck }
    gates := { g1R := { Gate.initial with locked := false }, g1Y := { Gate.initial with locked := false }
               g2R := { Gate.initial with locked := false }, g2Y := { Gate.initial with locked := false } }
    vehicles := [entry], accounts := [account5] }

/-- The yard with these bytes of a selection received. -/
def received (sdi : List Byte) : State := { yard with port := ⟨sdi, .inactive⟩ }

/-- A weighing. -/
def weighing (w : Int) : Weighing := { weight := w, deck := .d1, time := 0, origin := .deck }

/-- A visit in a state. -/
def visitIn (st : VisitState) : Visit :=
  { tag := some 7, plate := [0x41, 0x31], account := some 5, kind := 9, direction := .deliver, opened := 0
    onePass := false, overStay := false, state := st }

/-- A ticket with a mark. -/
def ticket (m : PrintMark) : Ticket :=
  { first := weighing 15000, second := weighing 5000, net := 10000, number := 1, closeTime := 0, charge := 100
    adjusted := false, target := some .p1, mark := m, attempts := 0, collected := false }

/-- The yard with a visit in slot 3. -/
def withVisit (st : VisitState) : State := yard.writeSlot 3 (some (visitIn st))

/-- The yard with one gate replaced. -/
def withGate (g : Gate) : State := yard.setGate .g1R g

/-- The yard with deck 1 replaced. -/
def withDeck (k : Deck) : State := yard.setDeck .d1 k

/-- A session of deck 1 with its visit in slot 3. -/
def serving (st : Stage) : Serving :=
  { stage := st, heading := .inbound, entryEnd := .road, releaseEnd := .yard, slot := 3, outcome := .pending
    accepted := 0, boardDue := some 5, captureDue := some 5, clearMark := true, waiver := false }

/-- The yard with a session at deck 1. -/
def withSession (st : Stage) : State := withDeck { readyDeck with session := some (serving st) }

/-- A cycle that awaits cell 1 with cell 0 read. -/
def cycle (todo : List Nat) : Cycle :=
  { warming := false, awaiting := 1, todo := todo, good := [⟨0, 100, false⟩], windowDue := 9 }

/-- The yard with a cycle at deck 1. -/
def withCycle (todo : List Nat) : State := withDeck { readyDeck with cells := { readyDeck.cells with cycle := some (cycle todo) } }

/-- A cell answer frame of address 1, count 256 and a status. -/
def cellBytes (status check : Byte) : List Byte := [0xA3, 1, 0, 1, 0, status, check]

/-- A job in a phase. -/
def jobIn (p : JobPhase) : Job :=
  { printer := .p1, slot := 3, ticket := 1, copy := 1, frame := List.replicate 61 0, sent := 60
    times := PrintTimes.default, phase := p }

/-- The yard with a job. -/
def withJob (p : JobPhase) : State := yard.setJob (some (jobIn p))

/-- Input levels of a reset: barriers at their down switches, the rest inactive. -/
def pins : Pins :=
  { gates := ⟨⟨false, false, true⟩, ⟨false, false, true⟩, ⟨false, false, true⟩, ⟨false, false, true⟩⟩
    printers := ⟨PrinterPins.rest, PrinterPins.rest⟩, emergency := false, ncs := .inactive }

/-! ### Ill-formed commands -/

theorem test_wf_key_short : (Instr.find 2 [1]).wf = false := by decide
theorem test_wf_amend_plate : (Instr.amend 0 none none (some [0x41]) none).wf = false := by decide
theorem test_wf_resolve_discard : (Instr.resolveClose 0 none 2 0 none).wf = false := by decide
theorem test_wf_vehicle_plate : (Instr.putVehicle { vehicleBody with plate := [0x41] }).wf = false := by decide
theorem test_wf_get_vehicle_key : (Instr.getVehicle 2 []).wf = false := by decide
theorem test_wf_call_key : (Instr.call 1 1 [7] 0 0 0).wf = false := by decide
theorem test_wf_cal_zeros : (Instr.calPut true { calBody with zeros := [] }).wf = false := by decide
theorem test_wf_cal_spans : (Instr.calPut true { calBody with spans := [1] }).wf = false := by decide
theorem test_wf_cal_put : (Instr.calPut true calBody).wf = true := by decide

/-! ### Frames of the link (R174, R177, R186) -/

theorem test_frame_status : commandOf false pins [0xA5, 0x78, 0] = some .status := by decide
theorem test_frame_read_deck : commandOf false pins [0xA5, 0x10, 1, 2] = some (.readDeck 2) := by decide
theorem test_frame_set_gate : commandOf false pins [0xA5, 0x40, 4, 1, 4, 6, 2] = some (.setGate 1 4 6 2) := by decide
theorem test_frame_wrong_length : commandOf false pins [0xA5, 0x10, 2, 2, 2] = some (.malformedFrame 0x10) := by decide
theorem test_frame_unknown_kind : commandOf false pins [0xA5, 0x0F, 0] = some (.malformedFrame 0x0F) := by decide
theorem test_frame_cut_short : commandOf false pins [0xA5, 0x10, 1] = some (.cutShortFrame (some 0x10)) := by decide
theorem test_frame_cut_before_kind : commandOf false pins [0xA5] = some (.cutShortFrame none) := by decide
theorem test_frame_read_selection : commandOf false pins [0x00, 0x10] = none := by decide

/-! ### Single values -/

theorem test_round_tie_up : roundAway 5 2 = 3 := by decide
theorem test_round_tie_down : roundAway (-5) 2 = -3 := by decide
theorem test_charge_minimum : charge { Kind.initial with rate := 100, minimum := 2500 } 1000 = 2500 := by decide
theorem test_charge_half_up : charge { Kind.initial with rate := 1 } 500 = 1 := by decide
theorem test_cell_frame : cellFrame (cellBytes 0 0x5B) = some (1, 256, 0) := by decide
theorem test_cell_frame_bad_check : cellFrame (cellBytes 0 0x5C) = none := by decide
theorem test_tag_frame : tagFrameOf [0x02, 0, 0, 0, 7, 0xF7] = some 7 := by decide
theorem test_tag_frame_zero : tagFrameOf [0x02, 0, 0, 0, 0, 0xFE] = none := by decide
theorem test_plate_folds : plateOf [0x61, 0x31, 0x20] = some [0x41, 0x31] := by decide
theorem test_plate_inner_space : plateOf [0x41, 0x20, 0x31] = none := by decide
theorem test_ticket_age : ticketAge 5 4 = 1 ∧ ticketAge 1 99999999 = 1 ∧ ticketAge 5 5 = 99999999 := by decide

/-! ### One command each on a small state -/

/-- The state a command leads to. -/
def after (c : Instr) (s : State) : State :=
  match exec c s with
  | .next t => t
  | _ => s

/-- The code of the answer a command leaves. -/
def codeOf (c : Instr) (s : State) : Option ReplyCode := (after c s).link.map fun a => a.code

theorem test_cal_put_warms : ((after (.calPut true calBody) State.reset).deck .d1).unit.reading.availability = .warming := by
  decide
theorem test_cal_put_open_switch : codeOf (.calPut false calBody) State.reset = some .guarded := by decide
theorem test_unlocked_raise_warns :
    ((after (.raise 1) yard).gate .g1R).barrier = .raising .warn .host 2000000 false := by decide
theorem test_warn_drives : ((after (.warnTimeLapse .g1R)
    (withGate { Gate.initial with barrier := .raising .warn .host 7 false })).gate .g1R).barrier =
      .raising .drive .host 6000007 false := by decide
theorem test_loop_guard_reverses : ((after (.loopStateChange .g1R true)
    (withGate { Gate.initial with barrier := .lowering .drive .host 7, downSwitch := false })).gate .g1R).barrier =
      .raising .drive .host 6000000 false := by decide
theorem test_unknown_tag_refused : codeOf (.call 1 1 [0, 0, 0, 8, 0, 0, 0, 0, 0, 0] 0 0 0) yard = some .refused := by decide
theorem test_unlock_twice : codeOf (.unlock 1) yard = some .done := by decide
theorem test_emergency_forces : ((after (.emergencyInputChange true) yard).gate .g2Y).barrier =
    .raising .drive .emergency 6000000 true := by decide
theorem test_collect_free_slot : codeOf (.collect 0 none) State.reset = some .wrongState := by decide
theorem test_collect_no_slot : codeOf (.collect 128 none) State.reset = some .outOfRange := by decide
theorem test_clock_advances : (after .yardClockAdvance State.reset).service.clock = 1 := by decide
theorem test_bytes_make_a_frame : (received [0xA5, 0x22]).clockByte false pins 0 = .next ((received [0xA5, 0x22, 0]).answered
    0x22 .done .walkEnd) := by rfl
theorem test_bytes_restart_waits : (match (received [0xA5, 0x7B]).clockByte false pins 0 with
    | .next t => t.port
    | _ => ⟨[0], .inactive⟩) = ⟨[], .finished⟩ := by decide
/-- WALK's answer, unread while bytes of a request selection, or of a read selection, are clocked. -/
def walked (sdi : List Byte) : State := { received sdi with link := some ⟨0x22, .done, false, false, .walkEnd⟩ }
theorem test_sdo_request_is_filler : (walked [0xA5]).sdoByte 0x22 = 0 := by decide
theorem test_sdo_read_is_answer : (walked [0]).sdoByte 0 = 0x22 := by decide
theorem test_revision_answer_bytes : (Answer.frame ⟨0x53, .stale, false, false, .revision 0x0102⟩) =
    [0xA5, 0x53, 4, 0, 0, 2, 1, 2] := by decide
/-- A third miss in a cycle that began in WARMING: the deck is FAULT, and the status stays NONE (R7; log 11). -/
theorem test_warming_fault_keeps_none : (fun r : Reading => (r.availability, r.status))
    ((after (.answerWindowLapse .d1) (withDeck { readyDeck with
      unit := Weigher.reset .warming 0 none
      cells := { readyDeck.cells with
        cells := [⟨0, false⟩, ⟨2, false⟩], cycle := some { cycle [] with warming := true } } })).deck .d1).unit.reading =
      (.fault, .noStatus) := by decide
theorem test_set_print_clamps : (after (.setPrint 0 17 9 4) State.reset).printing.times = ⟨1, 16, 8, 5⟩ := by decide
theorem test_take_first_notice : (after .takeNotice State.reset).link.map (fun a => a.body) =
    some (.notice (some (.retentionLost, .urgent, .nothing)) 1) := by decide
theorem test_overrun_marks : (after .walk { State.reset with link := some ⟨0, .done, false, false, .empty⟩ }).link =
    some ⟨0, .done, false, true, .empty⟩ := by decide
theorem test_supply_off_is_inert : (after .walk { State.reset with powered := false }).link = none := by decide
theorem test_pending_runs_in_order :
    step { State.reset with pending := [.answerRead, .walk] } = .next { State.reset with pending := [.walk] } := by rfl
theorem test_idle_step : step State.reset = .next { State.reset with now := 1000 } := by rfl

/-! ### The hypotheses of the statements can be met -/

theorem yard_listens : yard.listening := ⟨rfl, rfl, rfl⟩

theorem witness_StepRunsFrontOrIdles : yard.pending = [] := rfl

theorem witness_EveryCommandCompletes : ∃ s : State, s.powered = false ∧ (∀ q, Instr.walk ≠ .powerOn q) ∧
    (∀ b, Instr.walk ≠ .mainSupplyLoss b) ∧ Instr.walk ≠ .yardClockAdvance :=
  ⟨{ yard with powered := false }, rfl, by simp, by simp, by simp⟩

/-- An answer of six bytes. -/
def bareAnswer : Answer := ⟨Code.walk, .done, false, false, .empty⟩

theorem witness_LinkFramesAndAnswers :
    (Instr.walk.completesFrame = true ∧ ∃ s : State, s.powered = true ∧ s.port.ncs = .inactive ∧ s.link = some bareAnswer) ∧
    (∀ x, ∃ s : State, s.powered = true ∧ s.port.ncs = x) ∧ yard.listening ∧
    ((received [0xA5, 0x78]).powered = true ∧
      commandOf false { pins with ncs := .finished } ((received [0xA5, 0x78]).port.received ++ [0]) = some .status) ∧
    (bareAnswer.frame.length = 6 ∧ (received [0, 0, 0, 0, 0]).port.received ++ [0] = 0 :: [0, 0, 0, 0, 0] ∧
      (0 : Byte) ≠ 0xA5) ∧
    (60 : Byte).toNat ≤ 60 ∧ 60 < (61 : Byte).toNat ∧ 1 ∈ lengthsOf 0x10 ∧ 2 ∉ lengthsOf 0x10 :=
  ⟨⟨rfl, { yard with link := some bareAnswer }, rfl, rfl, rfl⟩, fun x => ⟨{ yard with port := ⟨[], x⟩ }, rfl, rfl⟩, yard_listens,
    ⟨rfl, by decide⟩, ⟨by decide, rfl, by decide⟩, by decide, by decide, by decide, by decide⟩

theorem witness_DeckReads : yard.listening := yard_listens

theorem witness_FindReturnsTheLiveRecord : yard.listening ∧ keyTag tagKey = some 7 ∧ plateOf plate1 = some [0x41, 0x31] ∧
    keyTicket tagKey = some 7 ∧ keyTag zeroKey = none ∧ plateOf zeroKey = none ∧ keyTicket zeroKey = none ∧
    5 < (6 : Byte).toNat := ⟨yard_listens, by decide, by decide, by decide, by decide, by decide, by decide, by decide⟩

theorem witness_TableReads : yard.listening := yard_listens

theorem witness_BlockReads : yard.listening := yard_listens

theorem witness_RetryCellAndWarmUp : yard.listening ∧
    (∃ s : State, s.powered = true ∧ (s.deck .d1).unit.warmUp = some 7 ∧ (s.deck .d1).cal.record = none) ∧
    ∃ s : State, s.powered = true ∧ (s.deck .d1).unit.warmUp = some 7 ∧ (s.deck .d1).cal.record = some record ∧
      record.cells.getLsbD 1 = true ∧ ((s.deck .d1).cells.cell 1).failed = true :=
  ⟨yard_listens, ⟨withDeck { Deck.initial with unit := { Deck.initial.unit with warmUp := some 7 } }, rfl, rfl, rfl⟩,
    withDeck { readyDeck with
      unit := { readyDeck.unit with warmUp := some 7 }
      cells := { readyDeck.cells with cells := [⟨0, false⟩, ⟨3, true⟩] } }, rfl, rfl, rfl, rfl, rfl⟩

theorem witness_CycleSlotPollsByRate :
    (State.reset.powered = true ∧ (State.reset.deck .d1).unit.reading.availability = .uncalibrated) ∧
    (yard.powered = true ∧ (yard.deck .d1).unit.reading.availability = .ready ∧ (yard.deck .d1).cells.cycle = none ∧
      (yard.deck .d1).session = none ∧ (yard.gate .g1R).occupied = false ∧ (yard.gate .g1Y).occupied = false ∧
      (yard.deck .d1).cells.skip = 0) ∧
    ((withSession .called).powered = true ∧ ((withSession .called).deck .d1).session ≠ none ∧
      (List.range 8).filter (fun i => record.cells.getLsbD i && !((yard.deck .d1).cells.cell i).failed) = [0, 1]) ∧
    ((withDeck { readyDeck with cells := { readyDeck.cells with skip := 3 } }).powered = true ∧
      (List.range 8).filter (fun i => record.cells.getLsbD i && !((List.replicate 8 (⟨3, true⟩ : Cell)).getD i Cell.healthy).failed)
        = []) :=
  ⟨⟨rfl, rfl⟩, ⟨rfl, rfl, rfl, rfl, rfl, rfl, rfl⟩, ⟨rfl, by decide, by decide⟩, rfl, by decide⟩

theorem witness_CellExchangeGoesOn :
    ((yard.deck .d1).cells.cycle = none ∧ cellFrame [] = none ∧ yard.powered = true) ∧
    (∀ todo, (withCycle todo).powered = true ∧ ((withCycle todo).deck .d1).cells.cycle = some (cycle todo) ∧
      (((withCycle todo).deck .d1).cells.cell 1).misses < 2) ∧
    cellFrame (cellBytes 0 0x5B) = some (1, 256, 0) ∧ cellFrame (cellBytes 1 0x5A) = some (1, 256, 1) ∧
    cellFrame (cellBytes 2 0x59) = some (1, 256, 2) :=
  ⟨⟨rfl, by decide, rfl⟩, fun _ => ⟨rfl, rfl, Nat.zero_lt_two⟩, by decide, by decide, by decide⟩

theorem witness_ThirdMissFailsTheCell : ∀ todo a, ∃ s : State, s.powered = true ∧
    (s.deck .d1).cells.cycle = some (cycle todo) ∧ 2 ≤ ((s.deck .d1).cells.cell 1).misses ∧
    (s.deck .d1).unit.reading.availability = a ∧ cellFrame (cellBytes 2 0x59) = some (1, 256, 2) :=
  fun todo a => ⟨withDeck { readyDeck with
      cells := { readyDeck.cells with cycle := some (cycle todo), cells := [⟨0, false⟩, ⟨2, false⟩] }
      unit := Weigher.reset a 0 none }, rfl, rfl, Nat.le_refl 2, rfl, by decide⟩

/-- Two good answers of the enabled set of `record`. -/
def twoGood (a b : Int) : List Good := [⟨0, a, false⟩, ⟨1, b, false⟩]

theorem witness_WeightIsRoundedToNearest : 0 < 1 ∧ ((twoGood 100 256).map fun g => g.cell).Nodup ∧
    (∀ g ∈ twoGood 100 256, g.cell < 8) ∧
    (∀ i < 8, record.cells.getLsbD i = true → ∃ g ∈ twoGood 100 256, g.cell = i) ∧
    record.rawWeight (twoGood 100 256) = 356 ∧ record.cells.getLsbD 2 = false := by decide

/-- The yard with a weighing unit at deck 1. -/
def withUnit (u : Weigher) : State := withDeck { readyDeck with unit := u }

/-- The evaluation of the weight `a` kg by a unit leaves this status, track count and working zero. -/
def evaluates (u : Weigher) (a : Int) (st : ReadStatus) (track : Nat) (zd : Int) : Bool :=
  let v := (((withUnit u).evaluate .d1 false (twoGood (a * 1000) 0)).deck .d1).unit
  v.reading.status == st && v.reading.track == track && v.zd == zd

/-- A unit that has been still, with this working zero and track count. -/
def stillUnit (zd : Int) (track : Nat) : Weigher :=
  { Weigher.reset .ready zd none with
    ref := 0, refPresent := true
    reading := { Reading.reset .ready with status := .valid, still := 9, track := track } }

/-- The branches of the evaluation: incomplete, OVER, UNDER, VALID, counted, adjusted, and an adjustment outside the zero
range. -/
theorem witness_EvaluationWritesTheReading : (yard.deck .d1).cal.record = some record ∧
    (∃ i < 8, record.cells.getLsbD i = true ∧ ¬ ∃ g ∈ ([] : List Good), g.cell = i) ∧
    evaluates (stillUnit 0 0) 60200 .over 0 0 = true ∧ evaluates (stillUnit 0 0) (-401) .under 0 0 = true ∧
    evaluates (stillUnit 0 0) 9000 .valid 0 0 = true ∧ evaluates (stillUnit (-8000) 18) 0 .valid 19 (-8000) = true ∧
    evaluates (stillUnit (-8000) 19) 0 .valid 0 0 = true ∧
    evaluates (stillUnit 2400000 19) 2401 .valid 0 2400000 = true := by
  refine ⟨rfl, ⟨0, by decide, by decide, by decide⟩, ?_, ?_, ?_, ?_, ?_, ?_⟩ <;> decide

theorem witness_CalPutReplacesTheRecord : yard.listening ∧ (Instr.calPut true calBody).wf = true :=
  ⟨yard_listens, by decide⟩

theorem witness_ZeroSetsTheZeros : yard.listening := yard_listens

theorem witness_RevisionCountsChanges : 0 < yard.register.slots.length ∧ 127 < yard.register.slots.length := by decide

theorem witness_SeekAndWalkMoveTheCursor : yard.listening ∧ slotOf 127 = some 127 ∧ slotOf 128 = none ∧
    stepOf 1 = some .up ∧ stepOf 4 = none ∧ filterOf 6 = some .anyNonFree ∧ filterOf 7 = none ∧
    WalkFilter.passes (.named .free) (yard.slot 0) = true ∧
    (∃ s : State, s.listening ∧ s.register.cursor.buffer = some ⟨0, Slot.initial⟩ ∧ s.register.cursor.step = .down) :=
  ⟨yard_listens, by decide, by decide, rfl, rfl, rfl, rfl, by decide,
    { yard with register := { yard.register with cursor := ⟨0, .down, .anyNonFree, some ⟨0, Slot.initial⟩⟩ } },
    ⟨rfl, rfl, rfl⟩, rfl, rfl⟩

theorem witness_VisitRequestsAndLeaving : yard.listening ∧ 128 ≤ (128 : Byte).toNat ∧ (127 : Byte).toNat < 128 ∧
    (5 : Revision) ≠ (yard.slot 127).revision ∧ (∃ c, c = Instr.collect 127 (some 5)) ∧
    (some (yard.slot 127).revision = some (0 : Revision)) :=
  ⟨yard_listens, by decide, by decide, by decide, ⟨_, rfl⟩, by decide⟩

theorem witness_AmendChangesTheVisit : (withVisit (.onSite (weighing 9000))).listening ∧
    ((withVisit (.onSite (weighing 9000))).visit 3 = some (visitIn (.onSite (weighing 9000)))) ∧
    (withVisit (.arriving .d1)).visit 3 = some (visitIn (.arriving .d1)) ∧ yard.visit 3 = none ∧
    plateOf plate1 = some [0x41, 0x31] ∧ plateOf zeroKey = none :=
  ⟨⟨rfl, rfl, rfl⟩, by decide, by decide, by decide, by decide, by decide⟩

theorem witness_ResolveClosesHeldVisits : (withVisit (.held (weighing 100) (weighing 90) 10 .lowNet)).listening ∧
    (3 : Byte).toNat < 128 ∧ (1 : Byte) ≠ 2 := ⟨⟨rfl, rfl, rfl⟩, by decide, by decide⟩

theorem witness_CloseWritesTheTicket :
    (withVisit (.onSite (weighing 9000))).visit 3 = some (visitIn (.onSite (weighing 9000))) ∧
    (visitIn (.onSite (weighing 9000))).isClosed = false ∧ yard.vehicle 7 = some entry ∧ entry.autoTare = true ∧
    yard.account 5 = some account5 ∧ yard.notices.length = 16 := by decide

theorem witness_TicketCounterGivesFreeNumbers : yard.register.slots.length = 128 ∧ yard.visit 0 = none ∧
    yard.listening ∧ (1 : BitVec 32).toNat = 1 ∧
    ∃ v, (withVisit (.closed (ticket .unprinted))).visit 3 = some v ∧ v.isClosed = true :=
  ⟨by decide, by decide, yard_listens, by decide, visitIn (.closed (ticket .unprinted)), by decide, rfl⟩

theorem witness_PutVehicleWritesTheEntry : yard.listening ∧ plateOf vehicleBody.plate = some [0x41, 0x31] ∧
    yard.vehicle vehicleBody.tag = some entry ∧ (∃ v ∈ yard.vehicles, v.plate = [0x41, 0x31] ∧ v.tag ≠ 8) ∧
    (vehicleBody.tag ≠ 0 ∧ vehicleBody.account ≠ 0 ∧ vehicleBody.tareMode = 1) :=
  ⟨yard_listens, by decide, by decide, ⟨entry, by decide⟩, by decide⟩

theorem witness_VehicleEntriesDropAndTare : yard.listening := yard_listens

theorem witness_AccountRequests : yard.listening := yard_listens

theorem witness_KindsAndCharges : yard.listening := yard_listens

theorem witness_SettingsAreClamped : yard.listening := yard_listens

theorem witness_HostGateRequests : yard.listening := yard_listens

/-- The yard with deck 1's session ON_DECK, a stable reading to capture, both loops CLEAR, its yard end DOWN, and its release
barrier in FAULT with the down switch alone ACTIVE. -/
def capturing : State :=
  ((withSession .onDeck).setUnit .d1 { Weigher.reset .ready 0 none with
    reading := { Reading.reset .ready with status := .valid, weight := 9000, current := true, still := 9 } }).setGate .g1Y
      { Gate.initial with barrier := .fault, locked := false }

/-- A FAULT gate with exactly one switch ACTIVE, whose restored barrier the session raises in the same event: the answer
carries the barrier after it (R101, R124). -/
theorem witness_ResetGateRestoresTheBarrier : yard.listening ∧ capturing.listening ∧
    (capturing.gate .g1Y).barrier = .fault ∧ (capturing.gate .g1Y).upSwitch ≠ (capturing.gate .g1Y).downSwitch ∧
    gateOf 2 = some .g1Y ∧
    (after (.resetGate 2) capturing).link.map (fun a => a.body) = some (.barrier (.raising .warn .session 2000000 false)) :=
  ⟨yard_listens, ⟨rfl, rfl, rfl⟩, rfl, by decide, rfl, by decide⟩

theorem witness_PhaseTimersMoveTheBarrier :
    (∀ b : Barrier, ((withGate { Gate.initial with barrier := b }).powered = true ∧
      ((withGate { Gate.initial with barrier := b }).gate .g1R).barrier = b)) ∧ Gate.initial.upSwitch = false :=
  ⟨fun _ => ⟨rfl, rfl⟩, rfl⟩

theorem witness_LimitSwitchesEndOrFaultAMotion :
    (∀ b : Barrier, ((withGate { Gate.initial with barrier := b, downSwitch := false }).powered = true ∧
      ((withGate { Gate.initial with barrier := b, downSwitch := false }).gate .g1R).barrier = b)) ∧
    Gate.initial.settleTime ≠ 0 ∧ (yard.gate .g1R).upSwitch ≠ true ∧ (yard.gate .g1R).downSwitch ≠ false ∧
    ((yard.gate .g1R).barrier = .down ∧ (yard.gate .g1R).downSwitch = true ∧
      ((after (.limitSwitchChange .g1R .up true) yard).gate .g1R).barrier = .fault) ∧
    ((after (.limitSwitchChange .g1R .up true) (withGate { Gate.initial with
      barrier := .raising .drive .host 5 false, downSwitch := false, settleTime := 0 })).gate .g1R).barrier = .up :=
  ⟨fun _ => ⟨rfl, rfl⟩, by decide, by decide, by decide, ⟨rfl, rfl, by decide⟩, by decide⟩

theorem witness_LoopChangesGuardTheBarrier : yard.powered = true ∧ (yard.gate .g1R).occupied = false ∧
    ∃ s : State, s.powered = true ∧ s.service.quiet = true ∧ s.service.loopWake = true :=
  ⟨rfl, rfl, { yard with service := { yard.service with quiet := true } }, rfl, rfl, rfl⟩

theorem witness_TagFramesBecomeCalls : yard.powered = true ∧ tagFrameOf [] = none ∧
    tagFrameOf [0x02, 0, 0, 0, 7, 0xF7] = some 7 ∧ yard.service.quiet = false ∧ (yard.gate .g1R).memory = none ∧
    (∃ s : State, s.powered = true ∧ (s.gate .g1R).memory = some ⟨7, 0⟩ ∧ s.now < 3000000) ∧
    ∀ b, ∃ s : State, s.powered = true ∧ s.service.quiet = true ∧ s.service.tagWake = b :=
  ⟨rfl, by decide, by decide, rfl, rfl, ⟨withGate { Gate.initial with memory := some ⟨7, 0⟩ }, rfl, rfl, by decide⟩,
    fun b => ⟨{ yard with service := { yard.service with quiet := true, tagWake := b } }, rfl, rfl, rfl⟩⟩

theorem witness_CallsAreExamined : yard.listening := yard_listens

theorem witness_ArbiterDecidesCalls :
    ((State.reset.deck .d1).unit.reading.availability = .uncalibrated) ∧
    (yard.emergency.latch = false ∧ (yard.deck .d1).unit.reading.availability = .ready ∧
      (yard.deck .d1).session = none ∧ (yard.gate .g1R).locked = false ∧ (yard.deck .d1).loaded = false ∧
      (yard.gate .g1R).barrier ≠ .fault) ∧
    (((withSession .called).deck .d1).session ≠ none ∧ (withSession .called).emergency.latch = false) ∧
    ((withGate { Gate.initial with locked := false, barrier := .fault }).gate .g1R).barrier = .fault ∧
    GateId.g1R.side = .road ∧ GateId.g1Y.side = .yard :=
  ⟨rfl, ⟨rfl, rfl, rfl, rfl, by decide, by decide⟩, ⟨by decide, rfl⟩, rfl, rfl, rfl⟩

theorem witness_WaitingCallsAreOffered :
    (∃ (s : State) (c : WaitingCall), s.powered = true ∧ (s.gate .g1R).waiting = some c) ∧
    (yard.emergency.latch = false ∧ (yard.deck .d1).unit.reading.availability = .ready ∧
      (yard.deck .d1).session = none ∧ (yard.deck .d1).loaded = false) ∧
    (∃ (s : State) (a b : WaitingCall), (s.gate .g1R).waiting = some a ∧ (s.gate .g1Y).waiting = some b ∧
      b.stamp < a.stamp) :=
  ⟨⟨withGate { Gate.initial with waiting := some ⟨.tag 7, 0, 5⟩ }, _, rfl, rfl⟩, ⟨rfl, rfl, rfl, by decide⟩,
    (withGate { Gate.initial with waiting := some ⟨.tag 7, 2, 5⟩ }).setGate .g1Y
      { Gate.initial with waiting := some ⟨.slot 3, 1, 5⟩ }, _, _, rfl, rfl, by decide⟩

theorem witness_SessionEntriesActOnTheGates :
    (withVisit (.arriving .d1)).visit 3 = some (visitIn (.arriving .d1)) ∧
    (withVisit (.departing .d1 (weighing 9000))).visit 3 = some (visitIn (.departing .d1 (weighing 9000))) := by decide

theorem witness_CapturesSettleTheVisit : yard.listening ∧
    (withVisit (.arriving .d1)).visit (serving .onDeck).slot = some (visitIn (.arriving .d1)) ∧
    (withVisit (.departing .d1 (weighing 9000))).visit (serving .onDeck).slot =
      some (visitIn (.departing .d1 (weighing 9000))) ∧
    (∃ s : State, s.visit 3 = some (visitIn (.arriving .d1)) ∧
      s.vehicle 7 = some { entry with tare := some ⟨5000, 0, .d1⟩ } ∧ 0 < entry.validity) ∧
    (yard.vehicle 7 = some entry ∧ entry.tare = none) :=
  ⟨yard_listens, by decide, by decide,
    ⟨{ withVisit (.arriving .d1) with vehicles := [{ entry with tare := some ⟨5000, 0, .d1⟩ }] },
      by decide, by decide, by decide⟩, by decide⟩

theorem witness_SessionsAreCancelledOrTimeOut : yard.listening ∧
    (∀ st, (withSession st).powered = true ∧ ((withSession st).deck .d1).session = some (serving st)) ∧
    (serving .called).boardDue = some 5 ∧ (serving .onDeck).captureDue = some 5 :=
  ⟨yard_listens, fun _ => ⟨rfl, rfl⟩, rfl, rfl⟩

theorem witness_SessionsFollowLoopsAndWeights :
    (∀ st, ((withSession st).deck .d1).session = some (serving st)) ∧ GateId.g1R.deck = .d1 ∧
    DeckId.d1.gate (serving .called).releaseEnd = .g1Y :=
  ⟨fun _ => rfl, rfl, rfl⟩

theorem witness_EmergencySetsAndReleases : yard.powered = true ∧ yard.emergency = ⟨false, false⟩ ∧
    yard.emergency.input ≠ true ∧ SessionDeckLaw { yard with register := ⟨[], 1, Cursor.reset⟩ } ∧
    (∃ s : State, s.listening ∧ LatchLaw s ∧ s.emergency = ⟨true, false⟩) := by
  refine ⟨rfl, rfl, by decide, ?_, { yard with emergency := ⟨true, false⟩ }, ⟨rfl, rfl, rfl⟩, ?_, rfl⟩
  · intro _ d n
    constructor
    · rintro ⟨v, h, _⟩
      simp [State.visit, State.slot, Slot.initial] at h
    · rintro ⟨x, h, _⟩
      cases d <;> simp [State.deck, PerDeck.get, yard, readyDeck, Deck.initial] at h
  · intro _
    exact ⟨fun d => by cases d <;> rfl, fun g => by cases g <;> rfl⟩

theorem witness_QuietSleepsAndWakeWarms : yard.listening ∧ yard.service.quiet = false ∧
    (yard.emergency.latch = false ∧ yard.decks.d1.session = none ∧ yard.gates.g1R.waiting = none ∧
      yard.gates.g1R.barrier = .down ∧ yard.printing.job = none) ∧
    ((withSession .called).listening ∧ (withSession .called).decks.d1.session ≠ none) ∧
    ∃ s : State, s.listening ∧ s.service.quiet = true :=
  ⟨yard_listens, rfl, ⟨rfl, rfl, rfl, rfl, rfl⟩, ⟨⟨rfl, rfl, rfl⟩, by decide⟩,
    { yard with service := { yard.service with quiet := true } }, ⟨rfl, rfl, rfl⟩, rfl⟩

theorem witness_PrinterAndTicketRequests : yard.listening ∧ yard.visit 3 = none ∧
    (withVisit (.closed (ticket .printed))).visit 3 = some (visitIn (.closed (ticket .printed))) ∧ (3 : Byte).toNat < 128 :=
  ⟨yard_listens, by decide, by decide, by decide⟩

theorem witness_ArbiterStartsTheOldestTicket : (withJob (.hold 5)).printing.job ≠ none ∧ yard.printing.job = none ∧
    (∃ s : State, s.printing.job = none ∧ s.visit 3 = some (visitIn (.closed (ticket .unprinted))) ∧
      (ticket .unprinted).target = some .p1 ∧ (s.printing.printers.get .p1).state = .inService ∧
      s.printing.lastServed = .p2) ∧
    (∃ s : State, s.printing.job = none ∧ s.visit 3 = some (visitIn (.closed (ticket .unprinted))) ∧
      (s.printing.printers.get .p1).state = .inService ∧ (s.printing.printers.get .p1).pins.fault = true ∧
      (s.serveBus.printing.printers.get .p1).state = .outOfService ∧ (s.serveBus.slot 3).revision = 3) :=
  ⟨by decide, rfl, ⟨withVisit (.closed (ticket .unprinted)), rfl, by decide, rfl, rfl, rfl⟩,
    (withVisit (.closed (ticket .unprinted))).setPins .p1 { PrinterPins.rest with fault := true }, rfl, by decide, rfl, rfl,
    by decide, by decide⟩

theorem witness_JobsRunToTheirOutcome :
    (yard.powered = true ∧ yard.printing.job = none) ∧
    ∀ p, (withJob p).powered = true ∧ (withJob p).printing.job = some (jobIn p) ∧ (jobIn p).phase = p :=
  ⟨⟨rfl, rfl⟩, fun _ => ⟨rfl, rfl, rfl⟩⟩

theorem witness_NoticesPendAndLeave : yard.listening ∧ yard.notices.length = 16 ∧
    (yard.notices[1]?.map fun l => l.detail) = some (some .nothing) ∧ NoticeKind.retentionLost.order = 1 ∧
    (yard.notices.countP fun l => l.detail.isSome && l.level == .urgent) = 1 ∧
    (∃ s : State, s.listening ∧ s.notices.length = 16 ∧ ∀ l ∈ s.notices, l.detail = none) :=
  ⟨yard_listens, by decide, by decide, rfl, by decide,
    { yard with notices := List.replicate 16 ⟨true, .routine, none⟩ }, ⟨rfl, rfl, rfl⟩, by decide, by decide⟩

theorem witness_ClockAndSiteCheckTheStays : yard.listening ∧ yard.register.slots.length = 128 ∧
    (∃ s : State, s.visit 3 = some (visitIn (.onSite (weighing 9000))) ∧
      (visitIn (.onSite (weighing 9000))).opened.toNat + s.service.maxStay * 3600 < s.service.clock.toNat) ∧
    yard.visit 3 = none :=
  ⟨yard_listens, by decide,
    ⟨{ withVisit (.onSite (weighing 9000)) with service := { yard.service with clock := 20000 } }, by decide, by decide⟩,
    by decide⟩

theorem witness_ResetsTakeTheBlocksBack : yard.listening ∧ yard.powered = true ∧
    (∀ d, (yard.deck d).session = none) ∧ yard.service.quiet = false ∧
    ((after (.pinReset { pins with emergency := true }) yard).gate .g1R).barrier = .raising .drive .emergency 6000000 true ∧
    (after (.pinReset { pins with ncs := .unfinished }) yard).port.ncs = .unfinished :=
  ⟨yard_listens, rfl, fun d => by cases d <;> rfl, rfl, by decide, by decide⟩

theorem witness_TablesClearAndSupplyFails : yard.listening := yard_listens

theorem witness_StepKeepsTheLoopGuard : ∃ s t : State, (s.gate .g1R).barrier = .lowering .drive .host 5 ∧
    LoopGuard s ∧ step s = .next t :=
  ⟨withGate { Gate.initial with barrier := .lowering .drive .host 5, downSwitch := false }, _, rfl,
    fun g => by cases g <;> first | rfl | trivial, rfl⟩

theorem witness_StepKeepsTheLatchLaw : ∃ s t : State, s.emergency.latch = true ∧ LatchLaw s ∧ step s = .next t :=
  ⟨{ yard with emergency := ⟨true, false⟩ }, _, rfl,
    fun _ => ⟨fun d => by cases d <;> rfl, fun g => by cases g <;> rfl⟩, rfl⟩

theorem witness_StepKeepsTheDeckLaws : ∃ s t : State, (s.deck .d1).cal.record = some record ∧ DeckLaws s ∧
    step s = .next t := by
  have h : ∀ d, (yard.deck d).cal.record = some record := fun d => by cases d <;> rfl
  have hr : ∀ d r, (yard.deck d).cal.record = some r → r = record := fun d r e => by
    rw [h d] at e
    exact (Option.some.inj e).symm
  refine ⟨yard, _, rfl, ⟨?_, ?_, ?_, ?_⟩, rfl⟩
  · intro d r e
    rw [hr d r e]
    decide
  · intro _ d
    rw [h d]
    cases d <;> exact ⟨by simp, fun e => by cases e⟩
  · intro d r e
    rw [hr d r e]
    cases d <;> decide
  · intro d r e
    rw [hr d r e]
    cases d <;> exact ⟨by decide, fun _ => by decide⟩

theorem witness_StepKeepsTheTables : ∃ s t : State, TableLaws s ∧ TicketsUnique s ∧ RetirementLaw s ∧
    step s = .next t := by
  have h : ∀ n, yard.visit n = none := fun n => by
    simp only [State.visit, State.slot, yard, State.reset, Register.initial, List.getD_eq_getElem?_getD,
      List.getElem?_replicate]
    split <;> rfl
  refine ⟨yard, _, ⟨by unfold Sizes; decide, by unfold VehiclesOrdered; decide, by unfold AccountsOrdered; decide⟩, ?_, ?_,
    rfl⟩
  · intro i j v w t u hi
    rw [h i] at hi
    cases hi
  · intro i v t hi
    rw [h i] at hi
    cases hi

theorem witness_StepKeepsOpenVisitsUnique : ∃ s t : State, OpenUnique s ∧ step s = .next t := by
  refine ⟨{ yard with register := ⟨[⟨1, some (visitIn (.arriving .d1))⟩], 1, Cursor.reset⟩ }, _, ?_, rfl⟩
  have h : ∀ n v, State.visit { yard with register := ⟨[⟨1, some (visitIn (.arriving .d1))⟩], 1, Cursor.reset⟩ } n =
      some v → n = 0 := fun n v e => by
    cases n with
    | zero => rfl
    | succ n => simp [State.visit, State.slot, Slot.initial] at e
  intro i j v w hi hj _ _ _
  rw [h i v hi, h j w hj]

theorem witness_StepKeepsTheAccounts : ∃ s t : State, s.accounts = [account5] ∧ AccountsOrdered s ∧ CountsLaw s ∧
    CreditLaw s ∧ step s = .next t := by
  refine ⟨{ yard with register := ⟨[], 1, Cursor.reset⟩ }, _, rfl, by unfold AccountsOrdered; decide, ⟨?_, ?_⟩, ?_, rfl⟩
  · intro a ha
    simp [yard] at ha
    rw [ha]
    decide
  · intro i v n hi
    simp [State.visit, State.slot, Slot.initial] at hi
  · intro a ha _
    simp [yard] at ha
    rw [ha]
    decide

theorem witness_StepKeepsTheSessionDeck : ∃ s t : State, SessionDeckLaw s ∧ (s.deck .d1).session = some (serving .onDeck) ∧
    step s = .next t := by
  refine ⟨{ withSession .onDeck with register :=
    ⟨List.replicate 3 Slot.initial ++ [⟨1, some (visitIn (.arriving .d1))⟩], 1, Cursor.reset⟩ }, _, ?_, rfl, rfl⟩
  intro _ d n
  cases d with
  | d1 =>
    match n with
    | 0 => decide
    | 1 => decide
    | 2 => decide
    | 3 => decide
    | n + 4 => simp [State.visit, State.slot, Slot.initial, State.deck, PerDeck.get, withSession, withDeck, State.setDeck,
        PerDeck.set, serving]
  | d2 =>
    match n with
    | 0 => decide
    | 1 => decide
    | 2 => decide
    | 3 => decide
    | n + 4 => simp [State.visit, State.slot, Slot.initial, State.deck, PerDeck.get, withSession, withDeck, State.setDeck,
        PerDeck.set, yard, readyDeck, Deck.initial]

end Sys2Proof.Tests
end

section
/-! PROOFS. Invariants through a command: a property that does not speak of the link passes through the frames of a
command where the command's own work keeps it. -/

namespace Sys2Proof.Machine

/-- The property does not speak of the link: neither the answer buffer nor the Link Port matters to it. -/
structure LinkFree (P : State → Prop) : Prop where
  link : ∀ s a, P s → P { s with link := a }
  port : ∀ s p, P s → P { s with port := p }

section Keeps

variable {P : State → Prop} {s t : State}

theorem taking_keeps {f : State → State} (hP : LinkFree P) (hf : ∀ s, s.powered = true → P s → P (f s))
    (hp : s.powered = true) (hs : P s) : P (s.taking f) := by
  unfold State.taking
  split
  · exact hf s hp hs
  · exact hP.port _ _ hs
  · exact hf _ hp (hP.port _ _ hs)

theorem answering_keeps {kind : Byte} {f : State → State × Reply} (hP : LinkFree P) (hf : P (f s).1) (hs : P s) :
    P (s.answering kind f) := by
  unfold State.answering
  split
  · exact hP.link _ _ hs
  · exact hP.link _ _ hf

/-- A selection keeps what the command handed over keeps (R174). -/
theorem selection_keeps {f : State → State} (hP : LinkFree P) (hf : ∀ s, s.powered = true → P s → P (f s)) (hs : P s)
    (h : selection f s = .next t) : P t := by
  obtain rfl := Host.Outcome.next.inj h
  split
  · next hp => exact taking_keeps hP hf hp hs
  · exact hs

/-- A request keeps what its performance keeps (R175). -/
theorem request_keeps {kind : Byte} {f : State → State × Reply} (hP : LinkFree P)
    (hf : ∀ s, s.powered = true → P s → P (f s).1) (hs : P s) (h : request kind f s = .next t) : P t :=
  selection_keeps hP (fun s hp hs => answering_keeps hP (hf s hp hs) hs) hs h

/-- A query keeps every property that does not speak of the link (R175). -/
theorem query_keeps {kind : Byte} {f : State → Reply} (hP : LinkFree P) (hs : P s) (h : query kind f s = .next t) :
    P t :=
  request_keeps hP (fun _ _ hs => hs) hs h

/-- An event keeps what its own work keeps (log 5). -/
theorem event_keeps {f : State → State} (hf : ∀ s, s.powered = true → P s → P (f s)) (hs : P s)
    (h : event f s = .next t) : P t := by
  obtain rfl := Host.Outcome.next.inj h
  split
  · next hp => exact hf s hp hs
  · exact hs

theorem eachGate_keeps {f : State → GateId → State} (hf : ∀ s g, P s → P (f s g)) (hs : P s) : P (s.eachGate f) :=
  hf _ _ (hf _ _ (hf _ _ (hf _ _ hs)))

theorem eachDeck_keeps {f : State → DeckId → State} (hf : ∀ s d, P s → P (f s d)) (hs : P s) : P (s.eachDeck f) :=
  hf _ _ (hf _ _ hs)

theorem jobLapse_keeps {due : JobPhase → Option Nat} {f : State → Job → State} (hr : ∀ s n, P s → P (s.reach n))
    (hf : ∀ s j, P s → P (f s j)) (hs : P s) : P (s.jobLapse due f) := by
  unfold State.jobLapse
  split
  · split
    · exact hf _ _ (hr _ _ hs)
    · exact hs
  · exact hs

theorem phaseLapse_keeps {g : GateId} {p : Phase} {f : Nat → Gate → Gate} (hr : ∀ s n, P s → P (s.reach n))
    (hf : ∀ s n, P s → P (s.gateEvent g (f n))) (hs : P s) : P (s.phaseLapse g p f) := by
  unfold State.phaseLapse
  split
  · exact hf _ _ (hr _ _ hs)
  · exact hs

theorem visitRequest_keeps {slot : Byte} {expected : Option Revision} {own : Nat → State × Reply}
    (hf : ∀ n, P (own n).1) (hs : P s) : P (s.visitRequest slot expected own).1 := by
  unfold State.visitRequest
  split
  · exact hs
  · split
    · exact hs
    · exact hf _

theorem withAccount_keeps {number : AccountNo} {own : Account → State × Reply} (hf : ∀ a, P (own a).1) (hs : P s) :
    P (s.withAccount number own).1 := by
  unfold State.withAccount
  split
  · exact hs
  · split
    · exact hs
    · exact hf _

/-- A step keeps a property that speaks neither of the queue nor of the passing of time, where every command keeps it. -/
theorem step_keeps (hq : ∀ s q, P s → P { s with pending := q }) (hn : ∀ s n, P s → P { s with now := n })
    (hc : ∀ c s t, P s → exec c s = .next t → P t) (hs : P s) (h : step s = .next t) : P t := by
  unfold step at h
  split at h
  · obtain rfl := Host.Outcome.next.inj h
    exact hn _ _ hs
  · exact hc _ _ _ (hq _ _ hs) h

end Keeps

end Sys2Proof.Machine
end

section
/-! PROOFS. What leaves the calibration and the weighing units alone: every operation over records and sessions, and
every command but those of Deck Weighing, of quiet running, of the emergency and of the resets. -/

namespace Sys2Proof.Machine

/-- `t` has the supply, the Calibration Store and the weighing units of `s`. -/
structure SameUnits (s t : State) : Prop where
  powered : t.powered = s.powered
  cal : ∀ d, (t.deck d).cal = (s.deck d).cal
  unit : ∀ d, (t.deck d).unit = (s.deck d).unit

theorem SameUnits.refl (s : State) : SameUnits s s := ⟨rfl, fun _ => rfl, fun _ => rfl⟩

theorem SameUnits.trans {s t u : State} (h : SameUnits s t) (k : SameUnits t u) : SameUnits s u :=
  ⟨k.powered.trans h.powered, fun d => (k.cal d).trans (h.cal d), fun d => (k.unit d).trans (h.unit d)⟩

theorem YardOnly.units {s t : State} (h : YardOnly s t) : SameUnits s t := ⟨h.powered, h.cal, h.unit⟩

theorem RecordsOnly.units {s t : State} (h : RecordsOnly s t) : SameUnits s t := h.yard.units

/-- A state with the supply and the decks of another has its units. -/
theorem sameUnits_of_decks {s t : State} (hp : t.powered = s.powered) (hd : t.decks = s.decks) : SameUnits s t :=
  ⟨hp, fun d => by rw [deck_congr hd], fun d => by rw [deck_congr hd]⟩

theorem sameUnits_linkFree (s : State) : LinkFree (SameUnits s) where
  link _ _ h := h.trans (sameUnits_of_decks rfl rfl)
  port _ _ h := h.trans (sameUnits_of_decks rfl rfl)

theorem reach_units (s : State) (n : Nat) : SameUnits s (s.reach n) := sameUnits_of_decks rfl rfl

theorem setCursor_units (s : State) (c : Cursor) : SameUnits s (s.setCursor c) := sameUnits_of_decks rfl rfl

theorem setService_units (s : State) (v : Service) : SameUnits s (s.setService v) := sameUnits_of_decks rfl rfl

theorem putAccount_units (s : State) (a : Account) : SameUnits s (s.putAccount a) := sameUnits_of_decks rfl rfl

theorem dropNotice_units (s : State) (k : NoticeKind) : SameUnits s (s.dropNotice k) := sameUnits_of_decks rfl rfl

/-- A deck replaced by one of the same calibration and unit. -/
theorem setDeck_units (s : State) (d : DeckId) (k : Deck) (hc : k.cal = (s.deck d).cal) (hu : k.unit = (s.deck d).unit) :
    SameUnits s (s.setDeck d k) where
  powered := rfl
  cal e := by
    rw [deck_setDeck]
    split
    · next h => rw [h, hc]
    · rfl
  unit e := by
    rw [deck_setDeck]
    split
    · next h => rw [h, hu]
    · rfl

theorem setCells_units (s : State) (d : DeckId) (c : CellLink) : SameUnits s (s.setCells d c) :=
  setDeck_units _ _ _ rfl rfl

theorem setCell_units (s : State) (d : DeckId) (i : Nat) (c : Cell) : SameUnits s (s.setCell d i c) :=
  setCells_units _ _ _

/-! ### The requests on visits -/

theorem moveAccount_records (s : State) (a b : Option AccountNo) : RecordsOnly s (s.moveAccount a b) := by
  unfold State.moveAccount
  split
  · exact .refl s
  · exact (countDown_records _ _).trans (countUp_records _ _)

theorem amend_records (s : State) (n : Nat) (v : Visit) (k : Option Byte) (p : Option (List Byte)) (a : Option AccountNo) :
    RecordsOnly s (s.amend n v k p a).1 := by
  unfold State.amend
  split
  · split
    · exact .refl s
    · split
      · exact .refl s
      · split
        · exact .refl s
        · exact (writeSlot_records _ _ _).trans (moveAccount_records _ _ _)
  · exact .refl s

theorem resolveClose_records (s : State) (n : Nat) (v : Visit) (a b : Weighing) (t : Byte) (net : Option (BitVec 32)) :
    RecordsOnly s (s.resolveClose n v a b t net).1 := by
  unfold State.resolveClose
  split
  · exact .refl s
  · split
    · split
      · exact (closeRecord_records _ _ _ _).trans (serveBus_records _)
      · exact .refl s
    · dsimp only
      split
      · exact .refl s
      · exact (closeRecord_records _ _ _ _).trans (serveBus_records _)

theorem doneAndServe_records (s : State) (n : Nat) (v : Option Visit) : RecordsOnly s ((s.writeSlot n v).doneAndServe n).1 :=
  (writeSlot_records _ _ _).trans (serveBus_records _)

section Requests

variable {s t : State}

theorem request_units {kind : Byte} {f : State → State × Reply} (hf : ∀ s, SameUnits s (f s).1)
    (h : request kind f s = .next t) : SameUnits s t :=
  request_keeps (sameUnits_linkFree s) (fun _ _ hs => hs.trans (hf _)) (.refl s) h

theorem event_units {f : State → State} (hf : ∀ s, SameUnits s (f s)) (h : event f s = .next t) : SameUnits s t :=
  event_keeps (P := SameUnits s) (fun _ _ hs => hs.trans (hf _)) (.refl s) h

/-- A visit request whose own part touches no more than records leaves the units. -/
theorem visitRequest_units {kind slot : Byte} {expected : Option Revision} {own : State → Nat → State × Reply}
    (hf : ∀ s n, RecordsOnly s (own s n).1) (h : request kind (fun s => s.visitRequest slot expected (own s)) s = .next t) :
    SameUnits s t :=
  request_units (fun s => visitRequest_keeps (fun n => (hf s n).units) (.refl s)) h

theorem execAmend_units {slot : Byte} {e : Option Revision} {k : Option Byte} {p : Option (List Byte)}
    {a : Option AccountNo} (h : execAmend slot e k p a s = .next t) : SameUnits s t := by
  refine visitRequest_units (fun s n => ?_) h
  split
  · split
    · exact amend_records _ _ _ _ _ _
    · exact .refl s
  · exact .refl s

theorem execCancelVisit_units {slot : Byte} {e : Option Revision} (h : execCancelVisit slot e s = .next t) :
    SameUnits s t := by
  refine visitRequest_units (fun s n => ?_) h
  split
  · split
    · exact (writeSlot_records _ _ _).trans (countDown_records _ _)
    · exact .refl s
  · exact .refl s

theorem execResolveClose_units {slot action target : Byte} {e : Option Revision} {net : Option (BitVec 32)}
    (h : execResolveClose slot e action target net s = .next t) : SameUnits s t := by
  refine visitRequest_units (fun s n => ?_) h
  split
  · split
    · split
      · exact resolveClose_records _ _ _ _ _ _ _
      · split
        · exact writeSlot_records _ _ _
        · exact .refl s
    · exact .refl s
  · exact .refl s

theorem execResolveDiscard_units {slot : Byte} {e : Option Revision} (h : execResolveDiscard slot e s = .next t) :
    SameUnits s t := by
  refine visitRequest_units (fun s n => ?_) h
  split
  · split
    · exact writeSlot_records _ _ _
    · exact .refl s
  · exact .refl s

theorem execCollect_units {slot : Byte} {e : Option Revision} (h : execCollect slot e s = .next t) : SameUnits s t := by
  refine visitRequest_units (fun s n => ?_) h
  split
  · split
    · exact writeSlot_records _ _ _
    · exact .refl s
  · exact .refl s

theorem execRedirect_units {slot target : Byte} {e : Option Revision} (h : execRedirect slot e target s = .next t) :
    SameUnits s t := by
  refine visitRequest_units (fun s n => ?_) h
  split
  · split
    · split
      · exact .refl s
      · split
        · exact .refl s
        · exact doneAndServe_records _ _ _
    · exact .refl s
  · exact .refl s

theorem execReprint_units {slot : Byte} {e : Option Revision} (h : execReprint slot e s = .next t) : SameUnits s t := by
  refine visitRequest_units (fun s n => ?_) h
  split
  · split
    · split
      · exact .refl s
      · split
        · exact .refl s
        · split
          · exact doneAndServe_records _ _ _
          · exact .refl s
    · exact .refl s
  · exact .refl s

theorem execSeek_units {slot step filter : Byte} (h : execSeek slot step filter s = .next t) : SameUnits s t := by
  refine request_units (fun s => ?_) h
  split
  · split <;> exact setCursor_units _ _
  · exact .refl s

theorem execWalk_units (h : execWalk s = .next t) : SameUnits s t := by
  refine request_units (fun s => ?_) h
  dsimp only
  split
  · exact .refl s
  · split <;> exact setCursor_units _ _

theorem execSetTicketNext_units {number : BitVec 32} (h : execSetTicketNext number s = .next t) : SameUnits s t := by
  refine request_units (fun s => ?_) h
  split
  · exact .refl s
  · split
    · exact .refl s
    · exact sameUnits_of_decks rfl rfl

/-! ### The requests on tables -/

theorem execPutVehicle_units {body : VehicleBody} (h : execPutVehicle body s = .next t) : SameUnits s t := by
  refine request_units (fun s => ?_) h
  split
  · exact .refl s
  · split
    · exact .refl s
    · split
      · exact .refl s
      · split
        · exact .refl s
        · exact (putVehicle_records _ _).units

theorem execDropVehicle_units {tag : Tag} (h : execDropVehicle tag s = .next t) : SameUnits s t := by
  refine request_units (fun s => ?_) h
  split
  · exact .refl s
  · split
    · exact .refl s
    · exact sameUnits_of_decks rfl rfl

theorem execSetTareFromDeck_units {tag : Tag} {deck : Byte} (h : execSetTareFromDeck tag deck s = .next t) :
    SameUnits s t := by
  refine request_units (fun s => ?_) h
  split
  · split
    · exact .refl s
    · dsimp only
      iterate 4
        split
        · exact .refl s
      exact (putVehicle_records _ _).units
  · exact .refl s

theorem execPutAccount_units {number : AccountNo} {opening floor : BitVec 32} {limit : Byte}
    (h : execPutAccount number opening floor limit s = .next t) : SameUnits s t := by
  refine request_units (fun s => ?_) h
  dsimp only
  split
  · exact .refl s
  · split
    · exact putAccount_units _ _
    · split
      · exact .refl s
      · exact putAccount_units _ _

/-- An account request whose own part leaves the units leaves them. -/
theorem accountRequest_units {kind : Byte} {number : AccountNo} {own : State → Account → State × Reply}
    (hf : ∀ s a, SameUnits s (own s a).1) (h : request kind (fun s => s.withAccount number (own s)) s = .next t) :
    SameUnits s t :=
  request_units (fun s => withAccount_keeps (hf s) (.refl s)) h

theorem execCredit_units {number : AccountNo} {amount : BitVec 32} (h : execCredit number amount s = .next t) :
    SameUnits s t := by
  refine accountRequest_units (fun s a => ?_) h
  dsimp only
  split
  · exact (putAccount_units _ _).trans (raise_records _ _ _).units
  · exact putAccount_units _ _

theorem execRelease_units {number : AccountNo} (h : execRelease number s = .next t) : SameUnits s t := by
  refine accountRequest_units (fun s a => ?_) h
  split
  · exact putAccount_units _ _
  · exact .refl s

theorem execDropAccount_units {number : AccountNo} (h : execDropAccount number s = .next t) : SameUnits s t := by
  refine accountRequest_units (fun s a => ?_) h
  split
  · exact .refl s
  · split
    · exact .refl s
    · exact sameUnits_of_decks rfl rfl

theorem execPutKind_units {code accepted directions : Byte} {rate minimum : BitVec 32}
    (h : execPutKind code accepted directions rate minimum s = .next t) : SameUnits s t := by
  refine request_units (fun s => ?_) h
  split
  · exact sameUnits_of_decks rfl rfl
  · exact .refl s

/-! ### The requests on gates and sessions -/

theorem hostMove_units (s : State) (gate : Byte) (f : Gate → Gate) : SameUnits s (s.hostMove gate f).1 := by
  unfold State.hostMove
  split
  · exact .refl s
  · split
    · exact .refl s
    · exact (gateEvent_yard _ _ _).units

/-- A request whose only effect is on one gate it names leaves the units. -/
theorem execSetGate_units {gate warn drive settle : Byte} (h : execSetGate gate warn drive settle s = .next t) :
    SameUnits s t := by
  refine request_units (fun s => ?_) h
  split
  · exact .refl s
  · exact (setGate_yard _ _ _).units

theorem execResetGate_units {gate : Byte} (h : execResetGate gate s = .next t) : SameUnits s t := by
  refine request_units (fun s => ?_) h
  split
  · exact .refl s
  · split
    · exact .refl s
    · split
      · exact .refl s
      · dsimp only
        exact (gateEvent_yard _ _ _).units

theorem execLock_units {gate : Byte} (h : execLock gate s = .next t) : SameUnits s t := by
  refine request_units (fun s => ?_) h
  split
  · exact .refl s
  · exact (setGate_yard _ _ _).units

theorem unlockGate_yard (s : State) (g : GateId) : YardOnly s (s.unlockGate g) := by
  unfold State.unlockGate
  split
  · dsimp only
    split
    · exact (gateEvent_yard _ _ _).trans (offer_yard _ _)
    · exact gateEvent_yard _ _ _
  · exact .refl s

theorem execUnlock_units {gate : Byte} (h : execUnlock gate s = .next t) : SameUnits s t := by
  refine request_units (fun s => ?_) h
  split
  · exact .refl s
  · exact (unlockGate_yard _ _).units

theorem execReadGate_units {gate clear : Byte} (h : execReadGate gate clear s = .next t) : SameUnits s t := by
  refine request_units (fun s => ?_) h
  split
  · dsimp only
    split
    · exact (setGate_yard _ _ _).units
    · exact .refl s
  · exact .refl s

theorem execCall_units {gate form kind direction : Byte} {key : List Byte} {account : AccountNo}
    (h : execCall gate form key account kind direction s = .next t) : SameUnits s t := by
  refine request_units (fun s => ?_) h
  split
  · exact .refl s
  · split
    · exact .refl s
    · split
      · exact .refl s
      · exact (arbitrateCall_yard _ _ _).units

theorem execManualCapture_units {deck : Byte} {weight : BitVec 32} (h : execManualCapture deck weight s = .next t) :
    SameUnits s t := by
  refine request_units (fun s => ?_) h
  split
  · exact .refl s
  · split
    · exact .refl s
    · split
      · exact .refl s
      · split
        · exact .refl s
        · exact (captureInto_yard _ _ _ _).units

theorem cancelBoarding_yard (s : State) (d : DeckId) (v : Serving) : YardOnly s (s.cancelBoarding d v) :=
  ((undo_records _ _).yard.trans (setPass_yard _ _ _)).trans (setSession_yard _ _ _)

theorem cancelOnDeck_yard (s : State) (d : DeckId) (v : Serving) : YardOnly s (s.cancelOnDeck d v) :=
  (undo_records _ _).yard.trans (enterReleased_yard _ _ _)

/-- An accepted CANCEL_SESSION touches no deck but its session (R130, R131). -/
theorem cancel_yard (s : State) (d : DeckId) (v : Serving) : ∀ t, s.cancel d v = some t → YardOnly s t := by
  intro t h
  unfold State.cancel at h
  split at h
  · obtain rfl := Option.some.inj h
    exact giveUp_yard _ _ _
  · obtain rfl := Option.some.inj h
    exact cancelBoarding_yard _ _ _
  · obtain rfl := Option.some.inj h
    exact cancelOnDeck_yard _ _ _
  all_goals
    split at h
    · obtain rfl := Option.some.inj h
      exact clearWaived_yard _ _ _
    · cases h

theorem execCancelSession_units {deck : Byte} (h : execCancelSession deck s = .next t) : SameUnits s t := by
  refine request_units (fun s => ?_) h
  split
  · exact .refl s
  · split
    · exact .refl s
    · split
      · next hc => exact (cancel_yard _ _ _ _ hc).units
      · exact .refl s

theorem execSetDeckTimers_units {deck : Byte} {board capture wait : BitVec 16}
    (h : execSetDeckTimers deck board capture wait s = .next t) : SameUnits s t := by
  refine request_units (fun s => ?_) h
  split
  · exact .refl s
  · exact setDeck_units _ _ _ rfl rfl

theorem releaseLatch_units (s : State) : SameUnits s s.releaseLatch := by
  unfold State.releaseLatch
  refine eachDeck_keeps (P := SameUnits s) (fun _ _ h => h.trans (offer_yard _ _).units) ?_
  refine eachGate_keeps (P := SameUnits s) (fun _ _ h => h.trans (gateEvent_yard _ _ _).units) ?_
  exact sameUnits_of_decks rfl rfl

theorem execEmergencyRelease_units (h : execEmergencyRelease s = .next t) : SameUnits s t := by
  refine request_units (fun s => ?_) h
  split
  · exact .refl s
  · split
    · exact .refl s
    · exact releaseLatch_units s

/-! ### The requests on printers, notices and the Service Unit -/

theorem returnPrinter_records (s : State) (p : PrinterId) : RecordsOnly s (s.returnPrinter p).1 :=
  (setPrinter_records _ _ _).trans (serveBus_records _)

theorem execHoldPrinter_units {printer : Byte} (h : execHoldPrinter printer s = .next t) : SameUnits s t := by
  refine request_units (fun s => ?_) h
  split
  · exact .refl s
  · split
    · exact (setPrinter_records _ _ _).units
    · exact (setPrinter_records _ _ _).units
    · exact .refl s
    · exact .refl s

theorem execReleasePrinter_units {printer : Byte} (h : execReleasePrinter printer s = .next t) : SameUnits s t := by
  refine request_units (fun s => ?_) h
  split
  · exact .refl s
  · split
    · split
      · exact (setPrinter_records _ _ _).units
      · exact .refl s
    · exact (returnPrinter_records _ _).units
    · exact .refl s

theorem execResumePrinter_units {printer : Byte} (h : execResumePrinter printer s = .next t) : SameUnits s t := by
  refine request_units (fun s => ?_) h
  split
  · exact .refl s
  · split
    · exact (returnPrinter_records _ _).units
    · exact .refl s

theorem execTakeNotice_units (h : execTakeNotice s = .next t) : SameUnits s t := by
  refine request_units (fun s => ?_) h
  split
  · exact dropNotice_units _ _
  · exact .refl s

theorem execSetNotice_units {kind enable level : Byte} (h : execSetNotice kind enable level s = .next t) :
    SameUnits s t := by
  refine request_units (fun s => ?_) h
  split
  · exact sameUnits_of_decks rfl rfl
  · exact .refl s

theorem execSetClock_units {seconds : Seconds} (h : execSetClock seconds s = .next t) : SameUnits s t := by
  refine request_units (fun s => ?_) h
  dsimp only
  exact (setService_units _ _).trans (checkStays_records _).units

theorem execSetSite_units {maxStay tagWake loopWake : Byte} (h : execSetSite maxStay tagWake loopWake s = .next t) :
    SameUnits s t := by
  refine request_units (fun s => ?_) h
  dsimp only
  split
  · dsimp only
    exact (setService_units _ _).trans (checkStays_records _).units
  · exact .refl s

theorem tickClock_units (s : State) : SameUnits s s.tickClock := by
  unfold State.tickClock
  exact (reach_units _ _).trans (setService_units _ _)

theorem execYardClockAdvance_units (h : execYardClockAdvance s = .next t) : SameUnits s t := by
  obtain rfl := Host.Outcome.next.inj h
  split
  · exact (tickClock_units _).trans (checkStays_records _).units
  · split
    · exact tickClock_units _
    · exact .refl s

/-! ### The events of cells, gates, sessions and the print bus -/

theorem execLimitSwitchChange_units {g : GateId} {w : LimitSwitch} {active : Bool}
    (h : execLimitSwitchChange g w active s = .next t) : SameUnits s t := by
  refine event_units (fun s => ?_) h
  cases w
  all_goals
    dsimp only
    split
    · exact .refl s
    · exact (gateEvent_yard _ _ _).units

/-- The lapse of a phase timer leaves the units. -/
theorem phaseLapse_units (s : State) (g : GateId) (p : Phase) (f : Nat → Gate → Gate) : SameUnits s (s.phaseLapse g p f) :=
  phaseLapse_keeps (P := SameUnits s) (fun _ _ h => h.trans (reach_units _ _)) (fun _ _ h => h.trans (gateEvent_yard _ _ _).units) (.refl s)

/-- The lapse of a timer of the job in progress leaves the units where its effect touches no more than records. -/
theorem jobLapse_units (s : State) (due : JobPhase → Option Nat) (f : State → Job → State)
    (hf : ∀ s j, RecordsOnly s (f s j)) : SameUnits s (s.jobLapse due f) :=
  jobLapse_keeps (P := SameUnits s) (fun _ _ h => h.trans (reach_units _ _)) (fun _ _ h => h.trans (hf _ _).units) (.refl s)

theorem execCallWaitLapse_units {g : GateId} (h : execCallWaitLapse g s = .next t) : SameUnits s t := by
  refine event_units (fun s => ?_) h
  split
  · exact ((reach_units _ _).trans (dropWaiting_yard _ _).units).trans (raise_records _ _ _).units
  · exact .refl s

theorem execBoardTimerLapse_units {d : DeckId} (h : execBoardTimerLapse d s = .next t) : SameUnits s t := by
  refine event_units (fun s => ?_) h
  split
  · split
    · exact (reach_units _ _).trans (giveUp_yard _ _ _).units
    · exact .refl s
  · exact .refl s

theorem execCaptureTimerLapse_units {d : DeckId} (h : execCaptureTimerLapse d s = .next t) : SameUnits s t := by
  refine event_units (fun s => ?_) h
  split
  · split
    · exact ((reach_units _ _).trans (setSession_yard _ _ _).units).trans (raise_records _ _ _).units
    · exact .refl s
  · exact .refl s

theorem execSetupTimeLapse_units (h : execSetupTimeLapse s = .next t) : SameUnits s t :=
  event_units (fun s => jobLapse_units s _ _ fun _ _ => setJob_records _ _) h

theorem execStrobeTimeLapse_units (h : execStrobeTimeLapse s = .next t) : SameUnits s t :=
  event_units (fun s => jobLapse_units s _ _ strobeEnd_records) h

theorem execHoldTimeLapse_units (h : execHoldTimeLapse s = .next t) : SameUnits s t :=
  event_units (fun s => jobLapse_units s _ _ byteEnd_records) h

theorem execBusyWaitLapse_units (h : execBusyWaitLapse s = .next t) : SameUnits s t :=
  event_units (fun s => jobLapse_units s _ _ fun _ _ => faultJob_records _ _ _) h

theorem execCompletionLimitLapse_units (h : execCompletionLimitLapse s = .next t) : SameUnits s t :=
  event_units (fun s => jobLapse_units s _ _ fun _ _ => faultJob_records _ _ _) h

theorem setPins_records (s : State) (p : PrinterId) (x : PrinterPins) : RecordsOnly s (s.setPins p x) :=
  setPrinter_records _ _ _

theorem execPbusyChange_units {p : PrinterId} {active : Bool} (h : execPbusyChange p active s = .next t) :
    SameUnits s t := by
  refine event_units (fun s => ?_) h
  have hp := (setPins_records s p { (s.printer p).pins with busy := active }).units
  dsimp only
  split
  · exact .refl s
  · split
    · split
      · split
        · exact hp.trans (setJob_records _ _).units
        · exact hp
      · exact hp
    · exact hp

theorem execPfltChange_units {p : PrinterId} {active : Bool} (h : execPfltChange p active s = .next t) :
    SameUnits s t := by
  refine event_units (fun s => ?_) h
  have hp := (setPins_records s p { (s.printer p).pins with fault := active }).units
  dsimp only
  split
  · exact .refl s
  · split
    · split
      · exact hp.trans (faultJob_records _ _ _).units
      · exact hp
    · exact hp

theorem execPdoneChange_units {p : PrinterId} {active : Bool} (h : execPdoneChange p active s = .next t) :
    SameUnits s t := by
  refine event_units (fun s => ?_) h
  have hp := (setPins_records s p { (s.printer p).pins with done := active }).units
  dsimp only
  split
  · exact .refl s
  · split
    · split
      · split
        · exact hp.trans (finishJob_records _ _).units
        · exact hp
      · exact hp
    · exact hp

theorem execRetryCell_units {deck cell : Byte} (h : execRetryCell deck cell s = .next t) : SameUnits s t := by
  refine request_units (fun s => ?_) h
  split
  · exact .refl s
  · split
    · exact .refl s
    · split
      · exact .refl s
      · split
        · exact setCell_units _ _ _ _
        · exact .refl s

end Requests

end Sys2Proof.Machine
end

section
/-! PROOFS. The frame of the weighing units: the commands that leave the Calibration Store, the weighing units and the
supply as they were. -/

namespace Sys2Proof.Machine

/-- The commands that may change a calibration, a weighing unit or the supply: those of Deck Weighing and of zero
setting, those that begin or end quiet running, the resets, CLEAR_TABLES and the loss of the supply. -/
def movesUnits : Instr → Bool
  | .calPut _ _ | .zero _ | .quiet | .wake | .restart _ | .clearTables _ | .powerOn _ | .pinReset _ | .cycleSlot _
  | .cellAnswer _ _ | .answerWindowLapse _ | .warmUpLapse _ | .loopStateChange _ _ | .tagFrame _ _
  | .emergencyInputChange _ | .mainSupplyLoss _ => true
  | _ => false

/-- Every command but those of `movesUnits` leaves the calibrations, the weighing units and the supply. -/
theorem exec_units {c : Instr} {s t : State} (hc : movesUnits c = false) (h : exec c s = .next t) : SameUnits s t := by
  have query_units {kind : Byte} {f : State → Reply} (h : query kind f s = .next t) : SameUnits s t :=
    query_keeps (sameUnits_linkFree s) (.refl s) h
  cases c with
  | readDeck | calGet | find | getVehicle | getAccount | getKind | readSession | readPrinters | readNotices | status
  | malformedFrame | cutShortFrame => exact query_units h
  | retryCell => exact execRetryCell_units h
  | seek => exact execSeek_units h
  | walk => exact execWalk_units h
  | amend => exact execAmend_units h
  | cancelVisit => exact execCancelVisit_units h
  | resolveClose => exact execResolveClose_units h
  | resolveDiscard => exact execResolveDiscard_units h
  | collect => exact execCollect_units h
  | setTicketNext => exact execSetTicketNext_units h
  | putVehicle => exact execPutVehicle_units h
  | dropVehicle => exact execDropVehicle_units h
  | setTareFromDeck => exact execSetTareFromDeck_units h
  | putAccount => exact execPutAccount_units h
  | credit => exact execCredit_units h
  | stop => exact accountRequest_units (fun _ _ => putAccount_units _ _) h
  | release => exact execRelease_units h
  | dropAccount => exact execDropAccount_units h
  | putKind => exact execPutKind_units h
  | setGate => exact execSetGate_units h
  | raise => exact request_units (fun _ => hostMove_units _ _ _) h
  | lower => exact request_units (fun _ => hostMove_units _ _ _) h
  | resetGate => exact execResetGate_units h
  | lock => exact execLock_units h
  | unlock => exact execUnlock_units h
  | readGate => exact execReadGate_units h
  | call => exact execCall_units h
  | manualCapture => exact execManualCapture_units h
  | cancelSession => exact execCancelSession_units h
  | setDeckTimers => exact execSetDeckTimers_units h
  | emergencyRelease => exact execEmergencyRelease_units h
  | setPrint => exact request_units (fun _ => (setPrinting_records _ _).units) h
  | holdPrinter => exact execHoldPrinter_units h
  | releasePrinter => exact execReleasePrinter_units h
  | resumePrinter => exact execResumePrinter_units h
  | redirect => exact execRedirect_units h
  | reprint => exact execReprint_units h
  | takeNotice => exact execTakeNotice_units h
  | dropNotices => exact request_units (fun _ => sameUnits_of_decks rfl rfl) h
  | setNotice => exact execSetNotice_units h
  | setClock => exact execSetClock_units h
  | setSite => exact execSetSite_units h
  | overrun | answerRead =>
    exact selection_keeps (sameUnits_linkFree s) (fun s _ hs => (sameUnits_linkFree _).link s _ hs) (.refl s) h
  | limitSwitchChange => exact execLimitSwitchChange_units h
  | warnTimeLapse | driveLimitLapse | settleTimeLapse => exact event_units (fun _ => phaseLapse_units _ _ _ _) h
  | callWaitLapse => exact execCallWaitLapse_units h
  | boardTimerLapse => exact execBoardTimerLapse_units h
  | captureTimerLapse => exact execCaptureTimerLapse_units h
  | yardClockAdvance => exact execYardClockAdvance_units h
  | setupTimeLapse => exact execSetupTimeLapse_units h
  | strobeTimeLapse => exact execStrobeTimeLapse_units h
  | holdTimeLapse => exact execHoldTimeLapse_units h
  | busyWaitLapse => exact execBusyWaitLapse_units h
  | completionLimitLapse => exact execCompletionLimitLapse_units h
  | pbusyChange => exact execPbusyChange_units h
  | pfltChange => exact execPfltChange_units h
  | pdoneChange => exact execPdoneChange_units h
  | calPut | zero | quiet | wake | restart | clearTables | powerOn | pinReset | cycleSlot | cellAnswer
  | answerWindowLapse | warmUpLapse | loopStateChange | tagFrame | emergencyInputChange | mainSupplyLoss => cases hc

end Sys2Proof.Machine
end

section
/-! PROOFS. The weight arithmetic (R8, R9): rounding to the nearest whole number, the sum over the enabled set, and the
bounds of the reported weight. -/

namespace Sys2Proof.Machine

/-! ### Rounding (spec/00 section 2.2) -/

/-- The rounded quotient of a magnitude: what the division by the doubled divisor brackets. -/
theorem roundedQuotient_bounds (n : Nat) {m : Nat} (h : 0 < m) :
    2 * ((2 * n + m) / (2 * m) * m) ≤ 2 * n + m ∧ 2 * n < 2 * ((2 * n + m) / (2 * m) * m) + m := by
  have hdiv := Nat.div_add_mod (2 * n + m) (2 * m)
  have hmod := Nat.mod_lt (2 * n + m) (show 0 < 2 * m by omega)
  have hcomm : 2 * m * ((2 * n + m) / (2 * m)) = 2 * ((2 * n + m) / (2 * m) * m) := by ring
  omega

/-- A quotient times its divisor has the sign of the dividend, and the rounded quotient of its magnitude. -/
theorem roundAway_mul (x : Int) (m : Nat) :
    roundAway x m * m = x.sign * (((2 * x.natAbs + m) / (2 * m) * m : Nat) : Int) := by
  unfold roundAway
  push_cast
  ring

/-- The rounded quotient is within half a divisor of the dividend, and on a tie it is the one of larger magnitude. -/
theorem roundAway_nearest (x : Int) {m : Nat} (h : 0 < m) :
    2 * (roundAway x m * m - x).natAbs ≤ m ∧
      (2 * (roundAway x m * m - x).natAbs = m → x.natAbs < (roundAway x m * m).natAbs) := by
  obtain ⟨hle, hlt⟩ := roundedQuotient_bounds x.natAbs h
  rw [roundAway_mul]
  generalize (2 * x.natAbs + m) / (2 * m) * m = q at hle hlt ⊢
  rcases lt_trichotomy x 0 with hx | rfl | hx
  · rw [Int.sign_eq_neg_one_of_neg hx]
    omega
  · simp at hle hlt ⊢
    omega
  · rw [Int.sign_eq_one_of_pos hx]
    omega

/-- The rounded quotient is not above a whole number of divisors that the dividend does not pass. -/
theorem roundAway_le {x k : Int} {m : Nat} (h : 0 < m) (hx : x ≤ k * m) : roundAway x m ≤ k := by
  have hn := (roundAway_nearest x h).1
  by_contra hk
  have hstep : (k + 1) * m ≤ roundAway x m * m := by
    apply mul_le_mul_of_nonneg_right <;> omega
  rw [add_mul, one_mul] at hstep
  omega

/-- The rounded quotient is not below a whole number of divisors that the dividend reaches. -/
theorem le_roundAway {x k : Int} {m : Nat} (h : 0 < m) (hx : k * m ≤ x) : k ≤ roundAway x m := by
  have hn := (roundAway_nearest x h).1
  by_contra hk
  have hstep : roundAway x m * m ≤ (k - 1) * m := by
    apply mul_le_mul_of_nonneg_right <;> omega
  rw [sub_mul, one_mul] at hstep
  omega

/-! ### The enabled set (R9, R27) -/

/-- The enabled cells are the addresses 0 … 7 whose bit is set (R27). -/
theorem mem_enabledCells (r : CalRecord) (i : Nat) : i ∈ r.enabledCells ↔ i < 8 ∧ r.cells.getLsbD i = true := by
  simp [CalRecord.enabledCells, CalRecord.enabled]

/-- A cycle is complete where each enabled cell gave a good answer (R7). -/
theorem complete_iff (r : CalRecord) (good : List Good) :
    r.complete good = true ↔ ∀ i < 8, r.cells.getLsbD i = true → ∃ g ∈ good, g.cell = i := by
  simp [CalRecord.complete, mem_enabledCells]

/-- Good answers of distinct addresses that cover the enabled set: their enabled addresses are those of the set. -/
theorem enabled_answers_perm (r : CalRecord) (good : List Good) (hd : (good.map fun g => g.cell).Nodup)
    (hb : ∀ g ∈ good, g.cell < 8) (hc : r.complete good = true) :
    ((good.filter fun g => r.enabled g.cell).map fun g => g.cell).Perm r.enabledCells := by
  have hsub : ((good.filter fun g => r.enabled g.cell).map fun g => g.cell).Nodup :=
    hd.sublist (List.filter_sublist.map _)
  have hset : r.enabledCells.Nodup := List.nodup_range.filter _
  rw [complete_iff] at hc
  refine (List.perm_ext_iff_of_nodup hsub hset).2 fun i => ?_
  simp only [List.mem_map, List.mem_filter, CalRecord.enabled, mem_enabledCells]
  constructor
  · rintro ⟨g, ⟨hg, he⟩, rfl⟩
    exact ⟨hb g hg, he⟩
  · rintro ⟨hi, he⟩
    obtain ⟨g, hg, rfl⟩ := hc i hi he
    exact ⟨g, ⟨hg, he⟩, rfl⟩

/-- The raw deck weight is the sum of the cell weights over the enabled set (R9). -/
theorem rawWeight_eq_sum (r : CalRecord) (good : List Good) (w : Nat → Int) (hd : (good.map fun g => g.cell).Nodup)
    (hb : ∀ g ∈ good, g.cell < 8) (hc : r.complete good = true) (hw : ∀ g ∈ good, w g.cell = r.cellWeight g) :
    r.rawWeight good = (r.enabledCells.map w).sum := by
  have hmap : (good.filter fun g => r.enabled g.cell).map r.cellWeight =
      ((good.filter fun g => r.enabled g.cell).map fun g => g.cell).map w := by
    rw [List.map_map]
    exact List.map_congr_left fun g hg => (hw g (List.mem_of_mem_filter hg)).symm
  rw [CalRecord.rawWeight, hmap]
  exact ((enabled_answers_perm r good hd hb hc).map w).sum_eq

/-- Settles O12: the bracket of the rounded quotient, and the enabled addresses as a permutation of the answers'. -/
theorem weightIsRoundedToNearest : Obligations.WeightIsRoundedToNearest := by
  refine ⟨fun x m h => roundAway_nearest x h, fun _ _ => rfl, ?_, fun _ _ => rfl⟩
  intro r good w hd hb hc hw
  exact rawWeight_eq_sum r good w hd hb ((complete_iff r good).2 hc) hw

end Sys2Proof.Machine
end

section
/-! PROOFS. The laws of weight, zero and calibration (R10, R14, R18, R27, R36): read deck by deck, kept by every
operation on a weighing unit, by every command, and so by every step. -/

namespace Sys2Proof.Machine

/-! ### The laws of one deck -/

/-- What a present record asks of its deck's Z_set and weighing unit (R10, R14, R18, R27, R36). -/
structure CalRecord.Governs (r : CalRecord) (supplied : Bool) (zSet : Int) (u : Weigher) : Prop where
  valid : r.valid = true
  calibrated : supplied = true → u.reading.availability ≠ .uncalibrated
  divides : (r.division : Int) ∣ u.reading.weight
  least : -(20 * r.division : Int) ≤ u.reading.weight
  most : u.reading.weight ≤ (r.max + 9 * r.division : Int)
  zSet : r.inZeroRange zSet = true
  zd : supplied = true → r.inZeroRange u.zd = true

/-- The laws of the decks at one deck: what its record asks, or UNCALIBRATED without one. -/
structure UnitLaws (supplied : Bool) (c : Cal) (u : Weigher) : Prop where
  absent : c.record = none → supplied = true → u.reading.availability = .uncalibrated
  present : ∀ r, c.record = some r → r.Governs supplied c.zSet u

/-- The laws of the decks are those of each deck. -/
theorem deckLaws_iff (s : State) : DeckLaws s ↔ ∀ d, UnitLaws s.powered (s.deck d).cal (s.deck d).unit := by
  constructor
  · rintro ⟨hvalid, hcal, hweight, hzero⟩ d
    refine ⟨fun hr hp => (hcal hp d).1 hr, fun r hr => ?_⟩
    obtain ⟨hdvd, hlo, hhi⟩ := hweight d r hr
    obtain ⟨hset, hzd⟩ := hzero d r hr
    refine ⟨hvalid d r hr, fun hp ha => ?_, hdvd, hlo, hhi, hset, hzd⟩
    rw [(hcal hp d).2 ha] at hr
    cases hr
  · intro h
    refine ⟨fun d r hr => ((h d).present r hr).valid, fun hp d => ⟨fun hr => (h d).absent hr hp, fun ha => ?_⟩, ?_, ?_⟩
    · cases hr : (s.deck d).cal.record with
      | none => rfl
      | some r => exact absurd ha (((h d).present r hr).calibrated hp)
    · intro d r hr
      have hg := (h d).present r hr
      exact ⟨hg.divides, hg.least, hg.most⟩
    · intro d r hr
      have hg := (h d).present r hr
      exact ⟨hg.zSet, hg.zd⟩

theorem DeckLaws.unit {s : State} (h : DeckLaws s) (d : DeckId) : UnitLaws s.powered (s.deck d).cal (s.deck d).unit :=
  (deckLaws_iff s).1 h d

theorem DeckLaws.of_units {s t : State} (h : DeckLaws s) (hu : SameUnits s t) : DeckLaws t := by
  refine (deckLaws_iff t).2 fun d => ?_
  rw [hu.powered, hu.cal, hu.unit]
  exact h.unit d

theorem deckLaws_linkFree : LinkFree DeckLaws where
  link _ _ h := h.of_units (sameUnits_of_decks rfl rfl)
  port _ _ h := h.of_units (sameUnits_of_decks rfl rfl)

/-- One deck replaced by a lawful one. -/
theorem DeckLaws.setDeck {s : State} (h : DeckLaws s) (d : DeckId) {k : Deck} (hk : UnitLaws s.powered k.cal k.unit) :
    DeckLaws (s.setDeck d k) := by
  refine (deckLaws_iff _).2 fun e => ?_
  rw [deck_setDeck]
  split
  · exact hk
  · exact h.unit e

/-- Both decks replaced by lawful ones. -/
theorem deckLaws_of_both {s : State} (h1 : UnitLaws s.powered s.decks.d1.cal s.decks.d1.unit)
    (h2 : UnitLaws s.powered s.decks.d2.cal s.decks.d2.unit) : DeckLaws s := by
  refine (deckLaws_iff s).2 fun d => ?_
  cases d
  · exact h1
  · exact h2

/-- A unit that keeps its weight, keeps its zero or takes Z_set, and moves between the availabilities of a calibrated
deck. -/
theorem UnitLaws.move {p : Bool} {c : Cal} {u u' : Weigher} (h : UnitLaws p c u) (hz : u'.zd = u.zd ∨ u'.zd = c.zSet)
    (hw : u'.reading.weight = u.reading.weight) (ha : p = true → u.reading.availability ≠ .uncalibrated)
    (ha' : u'.reading.availability ≠ .uncalibrated) : UnitLaws p c u' where
  absent hr hp := absurd (h.absent hr hp) (ha hp)
  present r hr := by
    obtain ⟨hvalid, -, hdvd, hlo, hhi, hset, hzd⟩ := h.present r hr
    refine ⟨hvalid, fun _ => ha', hw ▸ hdvd, hw ▸ hlo, hw ▸ hhi, hset, fun hp => ?_⟩
    rcases hz with hz | hz
    · rw [hz]
      exact hzd hp
    · rwa [hz]

/-! ### The bounds of the reported weight (R9, R10) -/

/-- The division of a valid record is positive and divides Max (R27). -/
theorem valid_division {r : CalRecord} (h : r.valid = true) : 0 < r.division ∧ r.division ∣ r.max := by
  simp only [CalRecord.valid, Bool.and_eq_true, decide_eq_true_eq, divisions, List.contains_eq_mem, List.mem_cons,
    List.not_mem_nil, or_false] at h
  obtain ⟨⟨⟨⟨⟨⟨-, hdivision⟩, -⟩, -⟩, -⟩, hmod⟩, -⟩ := h
  exact ⟨by omega, Nat.dvd_of_mod_eq_zero hmod⟩

/-- A net weight between the bounds of UNDER and OVER reports a multiple of the division from -20e to Max + 9e (R10). -/
theorem reported_bounds {r : CalRecord} (h : r.valid = true) {net : Int} (hlo : -((20 * r.division * 1000 : Nat) : Int) ≤ net)
    (hhi : net ≤ ((r.max + 9 * r.division) * 1000 : Nat)) :
    (r.division : Int) ∣ r.reported net ∧ -(20 * r.division : Int) ≤ r.reported net ∧
      r.reported net ≤ (r.max + 9 * r.division : Int) := by
  obtain ⟨hpos, n, hn⟩ := valid_division h
  have hm : 0 < 1000 * r.division := by omega
  have hle : roundAway net (1000 * r.division) ≤ n + 9 := by
    refine roundAway_le hm ?_
    rw [hn] at hhi
    push_cast at hhi ⊢
    linarith
  have hge : -20 ≤ roundAway net (1000 * r.division) := by
    refine le_roundAway hm ?_
    push_cast at hlo ⊢
    linarith
  have hdiv : (0 : Int) ≤ r.division := by omega
  refine ⟨Dvd.intro_left _ rfl, ?_, ?_⟩
  · have := mul_le_mul_of_nonneg_right hge hdiv
    unfold CalRecord.reported
    linarith
  · have := mul_le_mul_of_nonneg_right hle hdiv
    unfold CalRecord.reported
    rw [hn]
    push_cast
    linarith

/-- A complete cycle is VALID exactly where no cell was out of range and the net weight lies between the bounds (R10). -/
theorem status_valid_bounds {r : CalRecord} {good : List Good} {net : Int} (h : r.status good net = .valid) :
    -((20 * r.division * 1000 : Nat) : Int) ≤ net ∧ net ≤ ((r.max + 9 * r.division) * 1000 : Nat) := by
  unfold CalRecord.status at h
  split at h
  · cases h
  · next hover =>
    split at h
    · cases h
    · next hunder =>
      simp only [Bool.or_eq_true, decide_eq_true_eq, not_or] at hover
      omega

/-! ### The evaluation (R6 to R16) -/

theorem CalRecord.Governs.of_same {r : CalRecord} {p : Bool} {z : Int} {u u' : Weigher} (h : r.Governs p z u)
    (hz : u'.zd = u.zd) (hw : u'.reading.weight = u.reading.weight)
    (ha : u'.reading.availability = u.reading.availability) : r.Governs p z u' := by
  obtain ⟨hvalid, hcal, hdvd, hlo, hhi, hset, hzd⟩ := h
  exact ⟨hvalid, ha ▸ hcal, hw ▸ hdvd, hw ▸ hlo, hw ▸ hhi, hset, hz ▸ hzd⟩

/-- A change of the working zero to one in the zero range (R14, R36). -/
theorem CalRecord.Governs.setZero {r : CalRecord} {p : Bool} {z : Int} {u : Weigher} (h : r.Governs p z u) {z' : Int}
    (hz : r.inZeroRange z' = true) : r.Governs p z (u.setZero z') := by
  obtain ⟨hvalid, hcal, hdvd, hlo, hhi, hset, -⟩ := h
  exact ⟨hvalid, hcal, hdvd, hlo, hhi, hset, fun _ => hz⟩

theorem CalRecord.Governs.takeValid {r : CalRecord} {p : Bool} {z : Int} {u : Weigher} (h : r.Governs p z u) {net : Int}
    (hlo : -((20 * r.division * 1000 : Nat) : Int) ≤ net) (hhi : net ≤ ((r.max + 9 * r.division) * 1000 : Nat)) :
    r.Governs p z (u.takeValid r net) := by
  obtain ⟨hdvd, hleast, hmost⟩ := reported_bounds h.valid hlo hhi
  exact ⟨h.valid, h.calibrated, hdvd, hleast, hmost, h.zSet, h.zd⟩

/-- Zero tracking adjusts the working zero only within the zero range (R15, R16). -/
theorem CalRecord.Governs.track {r : CalRecord} {p : Bool} {z : Int} {u : Weigher} (h : r.Governs p z u) (empty : Bool) :
    r.Governs p z (u.track r empty).1 := by
  unfold Weigher.track
  split
  · split
    · exact h.of_same rfl rfl rfl
    · dsimp only
      split
      · next hrange =>
        refine CalRecord.Governs.setZero ?_ hrange
        exact h.of_same rfl rfl rfl
      · exact h.of_same rfl rfl rfl
  · exact h.of_same rfl rfl rfl

theorem CalRecord.Governs.takeComplete {r : CalRecord} {p : Bool} {z : Int} {u : Weigher} (h : r.Governs p z u)
    (good : List Good) (empty : Bool) (clock : Seconds) : r.Governs p z (u.takeComplete r good empty clock).1 := by
  unfold Weigher.takeComplete
  dsimp only
  split
  · next hvalid =>
    obtain ⟨hlo, hhi⟩ := status_valid_bounds hvalid
    refine (CalRecord.Governs.takeValid ?_ hlo hhi).track empty
    exact h.of_same rfl rfl rfl
  · exact h.of_same rfl rfl rfl

theorem CalRecord.Governs.takeIncomplete {r : CalRecord} {p : Bool} {z : Int} {u : Weigher} (h : r.Governs p z u)
    (warming : Bool) : r.Governs p z (u.takeIncomplete warming) := by
  unfold Weigher.takeIncomplete
  split
  · exact h
  · exact h.of_same rfl rfl rfl

/-- A deck that becomes READY by a complete cycle was calibrated (R19, R20). -/
theorem CalRecord.Governs.restored {r : CalRecord} {p : Bool} {z : Int} {u : Weigher} (h : r.Governs p z u)
    (failed : Bool) : r.Governs p z (u.restored failed) := by
  unfold Weigher.restored
  split
  · obtain ⟨hvalid, -, hdvd, hlo, hhi, hset, hzd⟩ := h
    exact ⟨hvalid, fun _ => nofun, hdvd, hlo, hhi, hset, hzd⟩
  · exact h

/-- The unit of a deck with a record replaced by one that the record governs. -/
theorem DeckLaws.setUnit {s : State} (h : DeckLaws s) {d : DeckId} {r : CalRecord} {u : Weigher}
    (hr : (s.deck d).cal.record = some r) (hu : r.Governs s.powered (s.deck d).cal.zSet u) : DeckLaws (s.setUnit d u) := by
  refine h.setDeck d ⟨fun hn => ?_, fun r' hr' => ?_⟩
  · rw [hr] at hn
    cases hn
  · rw [hr] at hr'
    obtain rfl := Option.some.inj hr'
    exact hu

/-- The evaluation's own part of the end of a cycle: the weighing unit written, and ZERO_DRIFT raised (R6 to R16). -/
def State.writeEvaluation (s : State) (d : DeckId) (r : CalRecord) (warming : Bool) (good : List Good) : State :=
  if r.complete good then
    let e := (s.deck d).unit.takeComplete r good ((s.deck d).session.isNone && !s.loopOccupied d) s.service.clock
    let s' := s.setUnit d (e.1.restored ((s.deck d).anyFailed r))
    if e.2 then s'.raise .zeroDrift (.deck d) else s'
  else s.setUnit d ((s.deck d).unit.takeIncomplete warming)

/-- The end of a cycle of a calibrated deck: the evaluation, the session's part, and the offer (R6, R23, R118). -/
theorem evaluate_eq {s : State} {d : DeckId} {r : CalRecord} (hr : (s.deck d).cal.record = some r) (warming : Bool)
    (good : List Good) :
    s.evaluate d warming good =
      if becameAble (s.deck d) ((s.writeEvaluation d r warming good).deck d) then
        ((s.writeEvaluation d r warming good).sessionEvaluation d).offer d
      else (s.writeEvaluation d r warming good).sessionEvaluation d := by
  simp only [State.evaluate, hr]
  rfl

/-- The end of a cycle of a deck without a record does nothing. -/
theorem evaluate_uncalibrated {s : State} {d : DeckId} (hr : (s.deck d).cal.record = none) (warming : Bool)
    (good : List Good) : s.evaluate d warming good = s := by
  simp only [State.evaluate, hr]

theorem DeckLaws.writeEvaluation {s : State} (h : DeckLaws s) {d : DeckId} {r : CalRecord}
    (hr : (s.deck d).cal.record = some r) (warming : Bool) (good : List Good) :
    DeckLaws (s.writeEvaluation d r warming good) := by
  have hg := (h.unit d).present r hr
  unfold State.writeEvaluation
  dsimp only
  split
  · have hcomplete := h.setUnit hr ((hg.takeComplete good ((s.deck d).session.isNone && !s.loopOccupied d)
      s.service.clock).restored ((s.deck d).anyFailed r))
    split
    · exact hcomplete.of_units (raise_records _ _ _).units
    · exact hcomplete
  · exact h.setUnit hr (hg.takeIncomplete warming)

/-- The end of a cycle keeps the laws of the decks (R6 to R16). -/
theorem DeckLaws.evaluate {s : State} (h : DeckLaws s) (d : DeckId) (warming : Bool) (good : List Good) :
    DeckLaws (s.evaluate d warming good) := by
  cases hr : (s.deck d).cal.record with
  | none => rwa [evaluate_uncalibrated hr]
  | some r =>
    have hunit := h.writeEvaluation hr warming good
    rw [evaluate_eq hr]
    split
    · exact hunit.of_units ((sessionEvaluation_yard _ _).trans (offer_yard _ _)).units
    · exact hunit.of_units (sessionEvaluation_yard _ _).units

end Sys2Proof.Machine
end

section
/-! PROOFS. The laws of the decks through the commands of Deck Weighing, quiet running, the emergency and the resets,
and so through every step (R10, R14, R18, R27, R36). -/

namespace Sys2Proof.Machine

/-! ### The cell link (R1 to R5) -/

theorem DeckLaws.pollNext {s : State} (h : DeckLaws s) (d : DeckId) (warming : Bool) (todo : List Nat) (good : List Good) :
    DeckLaws (s.pollNext d warming todo good) := by
  cases todo with
  | cons i rest => exact h.of_units (setCells_units _ _ _)
  | nil => exact (h.of_units (setCells_units _ _ _)).evaluate d warming good

theorem DeckLaws.takeSlot {s : State} (h : DeckLaws s) (d : DeckId) : DeckLaws (s.takeSlot d) := by
  unfold State.takeSlot
  dsimp only
  split
  · exact (h.of_units (setCells_units _ _ _)).pollNext _ _ _ _
  · exact h.of_units (setCells_units _ _ _)

theorem slotPassed_units (s : State) (d : DeckId) : SameUnits s (s.slotPassed d) :=
  (reach_units _ _).trans (setCells_units _ _ _)

/-- A calibrated deck that becomes FAULT (R3, R19). -/
theorem DeckLaws.deckFault {s : State} (h : DeckLaws s) {d : DeckId}
    (ha : s.powered = true → (s.deck d).unit.reading.availability ≠ .uncalibrated) : DeckLaws (s.deckFault d) := by
  have hunit : UnitLaws s.powered (s.deck d).cal
      { (s.deck d).unit with reading := { (s.deck d).unit.reading with availability := .fault } } :=
    (h.unit d).move (.inl rfl) rfl ha nofun
  exact (h.setDeck d (k := { s.deck d with unit := _ }) hunit).of_units (refuseWaiting_yard _ _).units

theorem DeckLaws.missCell {s : State} (h : DeckLaws s) (d : DeckId) (i : Nat) : DeckLaws (s.missCell d i) := by
  unfold State.missCell
  dsimp only
  split
  · exact h.of_units (setCell_units _ _ _ _)
  · have hset : DeckLaws ((s.setCell d i { misses := 3, failed := true }).raise .deckFault (.cell d i)) :=
      h.of_units ((setCell_units _ _ _ _).trans (raise_records _ _ _).units)
    split
    · next ha => exact hset.deckFault fun _ => by rw [ha]; nofun
    · next ha => exact hset.deckFault fun _ => by rw [ha]; nofun
    · exact hset

theorem DeckLaws.endExchange {s : State} (h : DeckLaws s) (d : DeckId) (c : Cycle) (g : Option Good) :
    DeckLaws (s.endExchange d c g) := by
  cases g with
  | some g => exact (h.of_units (setCell_units _ _ _ _)).pollNext _ _ _ _
  | none => exact (h.missCell _ _).pollNext _ _ _ _

/-! ### Entries into an availability (R19, R21, R22) -/

theorem DeckLaws.enterAsleep {s : State} (h : DeckLaws s) (d : DeckId) : DeckLaws (s.enterAsleep d) := by
  unfold State.enterAsleep
  dsimp only
  split
  case h_4 => exact h
  all_goals
    next ha => exact h.setDeck d ((h.unit d).move (.inl rfl) rfl (fun _ => by rw [ha]; nofun) nofun)

/-- The wake of a deck, as one replacement of its cell link and weighing unit (R14, R19, R21). -/
theorem wakeDeck_asleep {s : State} {d : DeckId} (ha : (s.deck d).unit.reading.availability = .asleep) :
    s.wakeDeck d = s.setDeck d { s.deck d with
      cells := { (s.deck d).cells with cycle := none }
      unit := { zd := (s.deck d).cal.zSet, refPresent := false, warmUp := some (s.now + 2000000)
                ref := if (s.deck d).unit.refPresent = true then
                  (s.deck d).unit.ref - ((s.deck d).cal.zSet - (s.deck d).unit.zd) else (s.deck d).unit.ref
                reading := { (s.deck d).unit.reading with
                  availability := .warming, status := .noStatus, current := false, still := 0, track := 0 } } } := by
  unfold State.wakeDeck
  rw [ha]
  cases d <;> rfl

/-- A deck that is not ASLEEP is left alone by a wake (R148). -/
theorem wakeDeck_awake {s : State} {d : DeckId} (ha : (s.deck d).unit.reading.availability ≠ .asleep) :
    s.wakeDeck d = s := by
  unfold State.wakeDeck
  split
  · next h => exact absurd h ha
  · rfl

theorem DeckLaws.wakeDeck {s : State} (h : DeckLaws s) (d : DeckId) : DeckLaws (s.wakeDeck d) := by
  by_cases ha : (s.deck d).unit.reading.availability = .asleep
  · rw [wakeDeck_asleep ha]
    exact h.setDeck d ((h.unit d).move (.inr rfl) rfl (fun _ => by rw [ha]; nofun) nofun)
  · rwa [wakeDeck_awake ha]

theorem DeckLaws.wakeYard {s : State} (h : DeckLaws s) (c : WakeCause) : DeckLaws (s.wakeYard c) := by
  have hdecks : DeckLaws (State.eachDeck { s with service := { s.service with quiet := false, wake := some c } }
      State.wakeDeck) :=
    eachDeck_keeps (fun _ d hs => hs.wakeDeck d) (h.of_units (sameUnits_of_decks rfl rfl))
  exact hdecks.of_units (raise_records _ _ _).units

theorem DeckLaws.wakeSource {s : State} (h : DeckLaws s) (c : WakeCause) : DeckLaws (s.wakeSource c) := by
  unfold State.wakeSource
  split
  · exact h.wakeYard c
  · exact h

/-! ### Calibration and zero setting (R22, R33, R38) -/

/-- A deck under a new valid record: weight 0, both zeros at Z_cal (R22, R33). -/
theorem unitLaws_of_new {p : Bool} {c : Cal} {r : CalRecord} {u : Weigher} (hv : r.valid = true)
    (ha : u.reading.availability ≠ .uncalibrated) (hw : u.reading.weight = 0) (hz : u.zd = r.zCal) :
    UnitLaws p (c.put r) u where
  absent := nofun
  present r' hr' := by
    obtain rfl := Option.some.inj hr'
    have hrange : r.inZeroRange r.zCal = true := by simp [CalRecord.inZeroRange]
    refine ⟨hv, fun _ => ha, hw ▸ dvd_zero _, ?_, ?_, hrange, fun _ => hz ▸ hrange⟩ <;> omega

/-- An accepted CAL_PUT, as one replacement of the deck (R22, R33). -/
theorem calibrate_eq (s : State) (d : DeckId) (r : CalRecord) :
    s.calibrate d r = s.setDeck d { s.deck d with
      cal := (s.deck d).cal.put r
      cells := { (s.deck d).cells with cells := List.replicate 8 Cell.healthy, cycle := none }
      unit := { zd := r.zCal, ref := (s.deck d).unit.ref, refPresent := false
                warmUp := if s.service.quiet = true then none else some (s.now + 2000000)
                reading := { availability := if s.service.quiet = true then .asleep else .warming
                             status := .noStatus, net := 0, weight := 0, current := false, still := 0, track := 0
                             lastComplete := (s.deck d).unit.reading.lastComplete, raw := 0 } } } := by
  unfold State.calibrate
  dsimp only
  split <;> cases d <;> rfl

theorem DeckLaws.calibrate {s : State} (h : DeckLaws s) (d : DeckId) {r : CalRecord} (hv : r.valid = true) :
    DeckLaws (s.calibrate d r) := by
  rw [calibrate_eq]
  refine h.setDeck d (unitLaws_of_new hv ?_ rfl rfl)
  dsimp only
  split <;> nofun

theorem DeckLaws.execCalPut {s t : State} (h : DeckLaws s) {closed : Bool} {body : CalBody}
    (he : execCalPut closed body s = .next t) : DeckLaws t := by
  refine request_keeps deckLaws_linkFree (fun s _ h => ?_) h he
  dsimp only
  iterate 3
    split
    · exact h
  split
  · exact h
  · next hv => exact h.calibrate _ (by simpa using hv)

theorem DeckLaws.execZero {s t : State} (h : DeckLaws s) {deck : Byte} (he : execZero deck s = .next t) :
    DeckLaws t := by
  refine request_keeps deckLaws_linkFree (fun s _ h => ?_) h he
  split
  · exact h
  · next d _ =>
    dsimp only
    split
    · exact h
    · next r hr =>
      iterate 3
        split
        · exact h
      split
      · exact h
      · next hrange =>
        obtain ⟨hvalid, hcal, hdvd, hlo, hhi, -, -⟩ := (h.unit d).present r hr
        have hrange : r.inZeroRange (s.deck d).unit.reading.raw = true := by simpa using hrange
        refine h.setDeck d ⟨fun hn => ?_, fun r' hr' => ?_⟩
        · exact absurd (hr.symm.trans hn) nofun
        · obtain rfl := Option.some.inj (hr.symm.trans hr')
          exact ⟨hvalid, hcal, hdvd, hlo, hhi, hrange, fun _ => hrange⟩

/-! ### Resets and the main supply (R18, R22, R181 to R183) -/

/-- A deck after a reset: WARMING with Z_set as its working zero, or UNCALIBRATED (R14, R18). -/
theorem UnitLaws.reset {p : Bool} {k : Deck} (h : UnitLaws p k.cal k.unit) (q : Bool) (now : Nat) :
    UnitLaws q (k.reset now).cal (k.reset now).unit := by
  unfold Deck.reset
  split
  · next r hr =>
    obtain ⟨hvalid, -, -, -, -, hset, -⟩ := h.present r hr
    refine ⟨fun hn => absurd (hr.symm.trans hn) nofun, fun r' hr' => ?_⟩
    obtain rfl := Option.some.inj (hr.symm.trans hr')
    exact ⟨hvalid, fun _ => nofun, dvd_zero _, Int.neg_nonpos_of_nonneg (by positivity), by positivity, hset,
      fun _ => hset⟩
  · next hr => exact ⟨fun _ _ => rfl, fun r hr' => absurd (hr.symm.trans hr') nofun⟩

/-- A deck without supply keeps its calibration (log 5). -/
theorem UnitLaws.dark {p : Bool} {k : Deck} (h : UnitLaws p k.cal k.unit) : UnitLaws false k.dark.cal k.dark.unit where
  absent _ := nofun
  present r hr := by
    obtain ⟨hvalid, -, -, -, -, hset, -⟩ := h.present r hr
    exact ⟨hvalid, nofun, dvd_zero _, Int.neg_nonpos_of_nonneg (by positivity), by positivity, hset, nofun⟩

/-- An UNCALIBRATED deck without a record is lawful (R18). -/
theorem unitLaws_of_absent {p : Bool} {c : Cal} {u : Weigher} (hr : c.record = none)
    (ha : u.reading.availability = .uncalibrated) : UnitLaws p c u :=
  ⟨fun _ _ => ha, fun _ hr' => absurd (hr.symm.trans hr') nofun⟩

theorem DeckLaws.setLatch {s : State} (h : DeckLaws s) : DeckLaws s.setLatch := by
  unfold State.setLatch
  refine DeckLaws.of_units ?_ (raise_records _ _ _).units
  refine DeckLaws.wakeSource ?_ _
  refine eachDeck_keeps (fun s d hs => hs.of_units ((abortSession_yard _ _).trans (dropCalls_yard _ _)).units) ?_
  refine eachGate_keeps (fun s g hs => hs.of_units (gateEvent_yard _ _ _).units) ?_
  exact h.of_units (sameUnits_of_decks rfl rfl)

theorem DeckLaws.performReset {s : State} (h : DeckLaws s) (cause : ResetCause) (lost : Bool) (pins : Pins) :
    DeckLaws (s.performReset cause lost pins) := by
  have hblocks : DeckLaws (s.resetBlocks cause lost pins) :=
    deckLaws_of_both (UnitLaws.reset (h.unit .d1) true _) (UnitLaws.reset (h.unit .d2) true _)
  have hbus : DeckLaws (s.resetBlocks cause lost pins).serveBus := hblocks.of_units (serveBus_records _).units
  unfold State.performReset
  dsimp only
  split
  · exact hbus.setLatch
  · exact hbus

theorem deckLaws_loseRetained (s : State) : DeckLaws s.loseRetained :=
  deckLaws_of_both (unitLaws_of_absent rfl rfl) (unitLaws_of_absent rfl rfl)

theorem deckLaws_clearTables (s : State) : DeckLaws s.clearTables := by
  unfold State.clearTables State.refuseAllWaiting
  refine eachDeck_keeps (fun _ _ hs => hs.of_units (refuseWaiting_yard _ _).units) ?_
  exact deckLaws_of_both (unitLaws_of_absent rfl rfl) (unitLaws_of_absent rfl rfl)

/-! ### Commands and steps -/

theorem DeckLaws.execCycleSlot {s t : State} (h : DeckLaws s) {d : DeckId} (he : execCycleSlot d s = .next t) :
    DeckLaws t := by
  refine event_keeps (fun s _ h => ?_) h he
  have hpassed := h.of_units (slotPassed_units s d)
  dsimp only
  split
  · exact hpassed.takeSlot d
  · exact hpassed

theorem DeckLaws.execCellAnswer {s t : State} (h : DeckLaws s) {d : DeckId} {f : List Byte}
    (he : execCellAnswer d f s = .next t) : DeckLaws t := by
  refine event_keeps (fun s _ h => ?_) h he
  split
  · exact h.endExchange _ _ _
  · exact h

theorem DeckLaws.execAnswerWindowLapse {s t : State} (h : DeckLaws s) {d : DeckId}
    (he : execAnswerWindowLapse d s = .next t) : DeckLaws t := by
  refine event_keeps (fun s _ h => ?_) h he
  split
  · exact (h.of_units (reach_units _ _)).endExchange _ _ _
  · exact h

theorem DeckLaws.execWarmUpLapse {s t : State} (h : DeckLaws s) {d : DeckId} (he : execWarmUpLapse d s = .next t) :
    DeckLaws t := by
  refine event_keeps (fun s _ h => ?_) h he
  split
  · exact h
  · next due _ =>
    have hreach := h.of_units (reach_units s due)
    have hlapsed : DeckLaws ((s.reach due).setDeck d { (s.reach due).deck d with
        cells := { ((s.reach due).deck d).cells with skip := 3 }
        unit := { ((s.reach due).deck d).unit with warmUp := none } }) := by
      refine hreach.setDeck d ⟨(hreach.unit d).absent, fun r hr => ?_⟩
      exact ((hreach.unit d).present r hr).of_same rfl rfl rfl
    dsimp only
    split
    · next r hr =>
      split
      · refine hlapsed.deckFault fun hp => ?_
        rw [deck_setDeck, if_pos rfl]
        exact ((hreach.unit d).present r hr).calibrated hp
      · exact hlapsed
    · exact hlapsed

theorem DeckLaws.loopEvent {s : State} (h : DeckLaws s) (g : GateId) (occupied : Bool) :
    DeckLaws (s.loopEvent g occupied) := by
  have hsession := h.of_units ((gateEvent_yard s g fun x => x.loopChange s.now occupied).trans
    (sessionLoop_yard _ g occupied)).units
  unfold State.loopEvent
  dsimp only
  split
  · exact hsession.wakeSource _
  · exact hsession

theorem DeckLaws.execLoopStateChange {s t : State} (h : DeckLaws s) {g : GateId} {occupied : Bool}
    (he : execLoopStateChange g occupied s = .next t) : DeckLaws t := by
  refine event_keeps (fun s _ h => ?_) h he
  split
  · exact h
  · exact h.loopEvent _ _

theorem DeckLaws.acceptedRead {s : State} (h : DeckLaws s) (g : GateId) (t : Tag) : DeckLaws (s.acceptedRead g t) := by
  unfold State.acceptedRead
  split
  · split
    · exact (h.wakeYard _).of_units (arbitrateCall_yard _ _ _).units
    · exact h
  · exact h.of_units (arbitrateCall_yard _ _ _).units

theorem DeckLaws.execTagFrame {s t : State} (h : DeckLaws s) {g : GateId} {f : List Byte}
    (he : execTagFrame g f s = .next t) : DeckLaws t := by
  refine event_keeps (fun s _ h => ?_) h he
  split
  · exact h.of_units (setGate_yard _ _ _).units
  · next tag _ =>
    have hread := h.of_units (setGate_yard s g ((s.gate g).read s.now tag).1).units
    dsimp only
    split
    · exact hread.acceptedRead _ _
    · exact hread

theorem DeckLaws.execEmergencyInputChange {s t : State} (h : DeckLaws s) {active : Bool}
    (he : execEmergencyInputChange active s = .next t) : DeckLaws t := by
  refine event_keeps (fun s _ h => ?_) h he
  have hinput : DeckLaws { s with emergency := { s.emergency with input := active } } :=
    h.of_units (sameUnits_of_decks rfl rfl)
  dsimp only
  split
  · exact h
  · split
    · exact hinput.setLatch
    · exact hinput

theorem DeckLaws.execQuiet {s t : State} (h : DeckLaws s) (he : execQuiet s = .next t) : DeckLaws t := by
  refine request_keeps deckLaws_linkFree (fun s _ h => ?_) h he
  split
  · exact h
  · split
    · exact h
    · refine eachDeck_keeps (P := DeckLaws) (fun _ d hs => hs.enterAsleep d) ?_
      exact h.of_units (sameUnits_of_decks rfl rfl)

theorem DeckLaws.execWake {s t : State} (h : DeckLaws s) (he : execWake s = .next t) : DeckLaws t := by
  refine request_keeps deckLaws_linkFree (fun s _ h => ?_) h he
  split
  · exact h.wakeYard _
  · exact h

theorem DeckLaws.execRestart {s t : State} (h : DeckLaws s) {pins : Pins} (he : execRestart pins s = .next t) :
    DeckLaws t := by
  refine selection_keeps deckLaws_linkFree (fun s _ h => ?_) h he
  split
  · exact deckLaws_linkFree.link _ _ h
  · exact h.performReset _ _ _

theorem DeckLaws.execClearTables {s t : State} (h : DeckLaws s) {closed : Bool}
    (he : execClearTables closed s = .next t) : DeckLaws t := by
  refine request_keeps deckLaws_linkFree (fun s _ h => ?_) h he
  split
  · exact h
  · split
    · exact h
    · exact deckLaws_clearTables s

theorem DeckLaws.execPowerOn {s t : State} (h : DeckLaws s) {pins : Pins} (he : execPowerOn pins s = .next t) :
    DeckLaws t := by
  obtain rfl := Host.Outcome.next.inj he
  split
  · exact h.performReset _ _ _
  · exact (deckLaws_loseRetained s).performReset _ _ _

theorem DeckLaws.execMainSupplyLoss {s t : State} (h : DeckLaws s) {fails : Bool}
    (he : execMainSupplyLoss fails s = .next t) : DeckLaws t := by
  obtain rfl := Host.Outcome.next.inj he
  exact deckLaws_of_both (UnitLaws.dark (h.unit .d1)) (UnitLaws.dark (h.unit .d2))

/-- Every command keeps the laws of the decks. -/
theorem exec_keeps_deckLaws {c : Instr} {s t : State} (h : DeckLaws s) (he : exec c s = .next t) : DeckLaws t := by
  cases hc : movesUnits c with
  | false => exact h.of_units (exec_units hc he)
  | true =>
    cases c with
    | calPut => exact h.execCalPut he
    | zero => exact h.execZero he
    | quiet => exact h.execQuiet he
    | wake => exact h.execWake he
    | restart => exact h.execRestart he
    | clearTables => exact h.execClearTables he
    | powerOn => exact h.execPowerOn he
    | pinReset => exact event_keeps (fun _ _ h => h.performReset _ _ _) h he
    | cycleSlot => exact h.execCycleSlot he
    | cellAnswer => exact h.execCellAnswer he
    | answerWindowLapse => exact h.execAnswerWindowLapse he
    | warmUpLapse => exact h.execWarmUpLapse he
    | loopStateChange => exact h.execLoopStateChange he
    | tagFrame => exact h.execTagFrame he
    | emergencyInputChange => exact h.execEmergencyInputChange he
    | mainSupplyLoss => exact h.execMainSupplyLoss he
    | _ => cases hc

/-- Settles O56: the laws read deck by deck, kept by every command, and so by every step. -/
theorem stepKeepsTheDeckLaws : Obligations.StepKeepsTheDeckLaws := by
  intro s t h hstep
  refine step_keeps (P := DeckLaws) ?_ ?_ (fun _ _ _ => exec_keeps_deckLaws) h hstep
  · exact fun s q h => h.of_units (sameUnits_of_decks rfl rfl)
  · exact fun s n h => h.of_units (sameUnits_of_decks rfl rfl)

end Sys2Proof.Machine
end

section
/-! PROOFS. Answers, replaced decks and flags: what a performed request answers, that the last replacement of a deck
stands, and the flags of a deck read as the rules give them (R4, R13, R177). -/

namespace Sys2Proof.Machine

/-! ### Answers -/

/-- A request performed with a bare outcome: the state it leaves, and the outcome in the answer (R175, R177). -/
theorem request_bare {kind : Byte} {f : State → State × Reply} {s t : State} {c : ReplyCode} (h : s.listening)
    (hf : f s = (t, .bare c)) : request kind f s = .next (t.answered kind c) := by
  rw [request_performed kind f s h, hf]
  rfl

/-- A query that answers DONE with a body (R175). -/
theorem query_done {kind : Byte} {f : State → Reply} {s : State} {b : Body} (h : s.listening) (hf : f s = .done b) :
    query kind f s = .next (s.answered kind .done b) := by
  rw [query_performed kind f s h, hf]
  rfl

/-- A query that is refused (R177). -/
theorem query_bare {kind : Byte} {f : State → Reply} {s : State} {c : ReplyCode} (h : s.listening) (hf : f s = .bare c) :
    query kind f s = .next (s.answered kind c) := by
  rw [query_performed kind f s h, hf]
  rfl

/-! ### Replaced decks -/

@[simp] theorem perDeck_set_set {α : Type} (p : PerDeck α) (d : DeckId) (x y : α) : (p.set d x).set d y = p.set d y := by
  cases d <;> rfl

@[simp] theorem perDeck_set_get {α : Type} (p : PerDeck α) (d : DeckId) : p.set d (p.get d) = p := by
  cases d <;> rfl

/-- The last replacement of a deck stands. -/
@[simp] theorem setDeck_setDeck (s : State) (d : DeckId) (x y : Deck) : (s.setDeck d x).setDeck d y = s.setDeck d y := by
  simp [State.setDeck]

/-- A deck replaced by itself. -/
@[simp] theorem setDeck_self (s : State) (d : DeckId) : s.setDeck d (s.deck d) = s := by
  simp [State.setDeck, State.deck]

/-! ### Flags of a deck -/

/-- The poll rate is FULL during a session and while a loop of the deck is OCCUPIED, else REDUCED (R4). -/
theorem pollRate_eq (s : State) (d : DeckId) :
    s.pollRate d = if (s.deck d).session ≠ none ∨ (s.gate (d.gate .road)).occupied = true ∨
      (s.gate (d.gate .yard)).occupied = true then .full else .reduced := by
  simp only [State.pollRate, State.loopOccupied, Bool.or_eq_true, Option.isSome_iff_ne_none]

theorem pollRate_eq_full_iff (s : State) (d : DeckId) :
    s.pollRate d = .full ↔ (s.deck d).session ≠ none ∨ (s.gate (d.gate .road)).occupied = true ∨
      (s.gate (d.gate .yard)).occupied = true := by
  rw [pollRate_eq]
  simp only [ite_eq_left_iff, reduceCtorEq, imp_false, not_not]

/-- Cycles run on a READY or FAULT deck, and on a WARMING one past its warm-up (R1). -/
theorem cycling_iff (u : Weigher) :
    u.cycling = true ↔ u.reading.availability = .ready ∨ u.reading.availability = .fault ∨
      (u.reading.availability = .warming ∧ u.warmUp = none) := by
  unfold Weigher.cycling
  cases u.reading.availability <;> simp

/-- A deck has a FAILED cell where a cell of its enabled set is FAILED (R3). -/
theorem anyFailed_iff (k : Deck) (r : CalRecord) :
    k.anyFailed r = true ↔ ∃ i, i < 8 ∧ r.cells.getLsbD i = true ∧ (k.cells.cell i).failed = true := by
  simp only [Deck.anyFailed, List.any_eq_true, mem_enabledCells, and_assoc]

/-- The stable flag of a calibrated deck (R13). -/
theorem stable_of_record {k : Deck} {r : CalRecord} (hr : k.cal.record = some r) :
    k.stable = decide (k.unit.reading.status = .valid ∧ r.stableCount ≤ k.unit.reading.still) := by
  simp [Deck.stable, hr, Bool.decide_and]
  rfl

/-- A deck without a record is not stable (R13). -/
theorem stable_of_absent {k : Deck} (hr : k.cal.record = none) : k.stable = false := by
  simp [Deck.stable, hr]

end Sys2Proof.Machine
end

section
/-! PROOFS. What READ_DECK and CAL_GET answer (R25, R35), and the laws at the state right after reset. -/

namespace Sys2Proof.Machine

/-- What READ_DECK answers (R25). -/
theorem exec_readDeck {s : State} (h : s.listening) (b : Byte) :
    exec (.readDeck b) s = .next (match deckOf b with
      | none => s.answered Code.readDeck .outOfRange
      | some d => s.answered Code.readDeck .done (.deck (s.deckImage d))) := by
  change query Code.readDeck _ s = _
  cases deckOf b with
  | none => exact query_bare h rfl
  | some d => exact query_done h rfl

/-- READ_DECK's fields of a calibrated deck (R25). -/
theorem deckImage_of_record {s : State} {d : DeckId} {r : CalRecord} (hr : (s.deck d).cal.record = some r) :
    s.deckImage d =
      { reading := (s.deck d).unit.reading
        stable := decide ((s.deck d).unit.reading.status = .valid ∧ r.stableCount ≤ (s.deck d).unit.reading.still)
        zd := (s.deck d).unit.zd
        rate := s.pollRate d
        cells := (List.range 8).map fun i =>
          if r.cells.getLsbD i then ⟨true, ((s.deck d).cells.cell i).failed, ((s.deck d).cells.cell i).misses⟩
          else ⟨false, false, 0⟩ } := by
  simp only [State.deckImage, hr, stable_of_record hr]
  rfl

/-- READ_DECK's fields of a deck without a record (R25). -/
theorem deckImage_of_absent {s : State} {d : DeckId} (hr : (s.deck d).cal.record = none) :
    s.deckImage d =
      { reading := (s.deck d).unit.reading, stable := false, zd := (s.deck d).unit.zd, rate := s.pollRate d
        cells := (List.range 8).map fun _ => ⟨false, false, 0⟩ } := by
  simp only [State.deckImage, hr, stable_of_absent hr]

/-- What CAL_GET answers (R35). -/
theorem exec_calGet {s : State} (h : s.listening) (closed : Bool) (b : Byte) (part : Option Byte) :
    exec (.calGet closed b part) s = .next (match deckOf b with
      | none => s.answered Code.calGet .outOfRange
      | some d =>
        if part.getD 0 = 0 then s.answered Code.calGet .done (.calPart0 d (s.deck d).cal.record closed (s.deck d).cal.changes
          (s.deck d).cal.shownZSet)
        else if part.getD 0 = 1 then s.answered Code.calGet .done (.calPart1 (s.deck d).cal.record)
        else s.answered Code.calGet .outOfRange) := by
  change query Code.calGet _ s = _
  cases deckOf b with
  | none => exact query_bare h rfl
  | some d =>
    dsimp only
    by_cases h0 : part.getD 0 = 0
    · rw [if_pos h0]
      exact query_done h (by simp only [if_pos h0])
    · rw [if_neg h0]
      by_cases h1 : part.getD 0 = 1
      · rw [if_pos h1]
        exact query_done h (by simp only [if_neg h0, if_pos h1])
      · rw [if_neg h1]
        exact query_bare h (by simp only [if_neg h0, if_neg h1])

/-- Settles O4: READ_DECK's image with and without a record, and CAL_GET's parts. -/
theorem deckReads : Obligations.DeckReads := by
  intro s h
  refine ⟨fun b => ?_, fun closed b part => ?_⟩
  · rw [exec_readDeck h]
    cases deckOf b with
    | none => rfl
    | some d =>
      dsimp only
      cases hr : (s.deck d).cal.record with
      | none =>
        rw [deckImage_of_absent hr, pollRate_eq]
        rfl
      | some r =>
        rw [deckImage_of_record hr, pollRate_eq]
  · rw [exec_calGet h]
    cases deckOf b with
    | none => rfl
    | some d =>
      have hzero : part.getD 0 = 0 ↔ part = none ∨ part = some 0 := by cases part <;> simp
      have hone : part.getD 0 = 1 ↔ part = some 1 := by cases part <;> simp
      have hset : (s.deck d).cal.shownZSet = if (s.deck d).cal.record = none then 0 else (s.deck d).cal.zSet := by
        unfold Cal.shownZSet
        cases (s.deck d).cal.record <;> rfl
      simp only [hzero, hone, hset]

/-! ### The laws right after reset (log 1) -/

/-- Every slot is FREE right after reset (R40). -/
theorem visit_reset (n : Nat) : State.reset.visit n = none := by
  simp only [State.visit, State.slot, State.reset, Register.initial, List.getD_eq_getElem?_getD, List.getElem?_replicate]
  split <;> rfl

theorem deck_reset (d : DeckId) : State.reset.deck d = Deck.initial := by
  cases d <;> rfl

theorem gate_reset (g : GateId) : State.reset.gate g = Gate.initial := by
  cases g <;> rfl

/-- Settles O53: no slot holds a visit, no table an entry, and each deck and gate is at its initial value. -/
theorem lawsHoldAtReset : Obligations.LawsHoldAtReset := by
  have hfree {n : Nat} {v : Visit} (h : State.reset.visit n = some v) : False := by
    rw [visit_reset] at h
    cases h
  refine ⟨fun g => ?_, nofun, ?_, ⟨⟨List.length_replicate, List.length_replicate, rfl⟩, List.Pairwise.nil, List.Pairwise.nil⟩, ?_, ?_, ?_,
    ⟨nofun, ?_⟩, nofun, ?_⟩
  · rw [gate_reset]
    trivial
  · refine (deckLaws_iff _).2 fun d => ?_
    rw [deck_reset]
    exact unitLaws_of_absent rfl rfl
  · exact fun _ _ _ _ h => (hfree h).elim
  · exact fun _ _ _ _ _ _ h => (hfree h).elim
  · exact fun _ _ _ h => (hfree h).elim
  · exact fun _ _ _ h => (hfree h).elim
  · intro _ d n
    rw [deck_reset]
    constructor
    · rintro ⟨v, h, -⟩
      exact (hfree h).elim
    · rintro ⟨x, h, -⟩
      cases h

end Sys2Proof.Machine
end

section
/-! PROOFS. CAL_PUT (R22, R31 to R33): the ranges of its body, its checks in order, and its effects. -/

namespace Sys2Proof.Machine

/-- Zero counts of 24 bits are in range whatever they are (R27, R32). -/
theorem zeros_inRange (zs : List (BitVec 24)) :
    ((zs.map (·.toInt)).all fun z => decide (-8388608 ≤ z ∧ z ≤ 8388607)) = true := by
  simp only [List.all_map, List.all_eq_true, Function.comp_apply, decide_eq_true_eq]
  intro z _
  have hlo := BitVec.le_toInt z
  have hhi := BitVec.toInt_lt (x := z)
  omega

/-- Spans of 24 bits are in range where none is 0 (R27, R32). -/
theorem spans_inRange_iff (xs : List (BitVec 24)) :
    ((xs.map (·.toNat)).all fun x => decide (1 ≤ x ∧ x ≤ 16777215)) = true ↔ 0 ∉ xs := by
  simp only [List.all_map, List.all_eq_true, Function.comp_apply, decide_eq_true_eq]
  constructor
  · intro h hmem
    exact absurd (h 0 hmem).1 (by decide)
  · intro h x hx
    have hne : x.toNat ≠ 0 := fun h0 => h (by rwa [show x = 0 from BitVec.eq_of_toNat_eq h0] at hx)
    have hlt := x.isLt
    omega

/-- The record of a body that a frame can spell is valid exactly within the ranges and the cross-conditions (R27, R32). -/
theorem recordOf_valid_iff {b : CalBody} (h : b.wf = true) (clock : Seconds) :
    (recordOf b clock).valid = true ↔
      b.cells ≠ 0 ∧ 0 ∉ b.spans ∧ -2000000000 ≤ b.zCal.toInt ∧ b.zCal.toInt ≤ 2000000000 ∧
      1000 ≤ b.max.toNat ∧ b.max.toNat ≤ 200000 ∧ b.division.toNat ∈ [1, 2, 5, 10, 20, 50, 100] ∧
      1 ≤ b.threshold.toNat ∧ b.threshold.toNat ≤ b.max.toNat ∧ 1 ≤ b.motionBand.toNat ∧ b.motionBand.toNat ≤ 8 ∧
      1 ≤ b.stableCount.toNat ∧ b.max.toNat % b.division.toNat = 0 ∧ 500 ≤ b.max.toNat / b.division.toNat ∧
      b.max.toNat / b.division.toNat ≤ 10000 := by
  simp only [CalBody.wf, Bool.and_eq_true, beq_iff_eq] at h
  obtain ⟨hzeros, hspans⟩ := h
  have hstable : b.stableCount.toNat ≤ 255 := by have := b.stableCount.isLt; omega
  simp only [CalRecord.valid, Bool.and_eq_true, bne_iff_ne, beq_iff_eq, decide_eq_true_eq]
  simp only [recordOf, List.length_map, hzeros, hspans, zeros_inRange, spans_inRange_iff, List.contains_eq_mem,
    decide_eq_true_eq, divisions, hstable]
  tauto

/-- CAL_PUT's checks in the order of R31. -/
theorem exec_calPut {s : State} (h : s.listening) (closed : Bool) (b : CalBody) :
    exec (.calPut closed b) s = .next (
      if closed = false then s.answered Code.calPut .guarded
      else if (s.deck b.deck).session ≠ none then s.answered Code.calPut .busy
      else if (s.deck b.deck).cal.changes = 65535 then s.answered Code.calPut .guarded
      else if (recordOf b s.service.clock).valid = false then s.answered Code.calPut .outOfRange
      else (s.calibrate b.deck (recordOf b s.service.clock)).answered Code.calPut .done) := by
  change request Code.calPut _ s = _
  rw [request_performed _ _ s h]
  simp only [Bool.not_eq_true', Option.isSome_iff_ne_none]
  split_ifs <;> rfl

/-- Settles O14: the ranges of R32 for the record's validity, and the accepted CAL_PUT as one replacement of the deck. -/
theorem calPutReplacesTheRecord : Obligations.CalPutReplacesTheRecord := by
  intro s closed b h hwf k inRange
  have hvalid : (recordOf b s.service.clock).valid = false ↔ ¬ inRange := by
    rw [← Bool.not_eq_true]
    exact not_congr (recordOf_valid_iff hwf s.service.clock)
  simp only [exec_calPut h, hvalid, calibrate_eq]
  rfl

end Sys2Proof.Machine
end

section
/-! PROOFS. Refused waiting calls, RETRY_CELL and the lapse of the warm-up timer (R4, R19, R26, R117). -/

namespace Sys2Proof.Machine

/-! ### Waiting calls refused (R117) -/

/-- The refusal of the waiting call a gate held in a state `s`, done to a state `x`: the call leaves its gate with
CALL_REFUSED; a gate that held none is left alone. -/
def State.refuseAt (x s : State) (g : GateId) : State :=
  if (s.gate g).waiting = none then x
  else (x.setGate g { s.gate g with waiting := none }).raise .callRefused (.refusal g .deckUnavailable)

/-- A refusal at one gate leaves the other gates. -/
theorem gate_refuseAt (x s : State) {g h : GateId} (hne : h ≠ g) : (x.refuseAt s g).gate h = x.gate h := by
  unfold State.refuseAt
  split
  · rfl
  · rw [gate_congr (raise_frame _ _ _).2.2.2.2.2.2.1, gate_setGate, if_neg hne]

/-- The two gates of a deck are two. -/
theorem yard_gate_ne_road (d : DeckId) : d.gate .yard ≠ d.gate .road := by
  cases d <;> decide

/-- The waiting call of one gate refused (R117): what `refuseWaiting` does at each of its two gates. -/
def State.refuseOne (s : State) (g : GateId) : State :=
  if (s.gate g).waiting.isSome then (s.dropWaiting g).raise .callRefused (.refusal g .deckUnavailable) else s

theorem refuseWaiting_eq_refuseOne (s : State) (d : DeckId) :
    s.refuseWaiting d = (s.refuseOne (d.gate .road)).refuseOne (d.gate .yard) := rfl

/-- The refusal at a gate that stands as it did in a state `s`. -/
theorem refuseOne_eq_refuseAt {x s : State} {g : GateId} (hg : x.gate g = s.gate g) : x.refuseOne g = x.refuseAt s g := by
  unfold State.refuseOne State.refuseAt State.dropWaiting
  rw [hg]
  cases (s.gate g).waiting <;> rfl

/-- A deck's waiting calls are refused at its road end, then at its yard end, each as it stood before (R117). -/
theorem refuseWaiting_eq {x s : State} {d : DeckId} (hg : x.gates = s.gates) :
    x.refuseWaiting d = (x.refuseAt s (d.gate .road)).refuseAt s (d.gate .yard) := by
  have hyard : (x.refuseAt s (d.gate .road)).gate (d.gate .yard) = s.gate (d.gate .yard) := by
    rw [gate_refuseAt x s (yard_gate_ne_road d), gate_congr hg]
  rw [refuseWaiting_eq_refuseOne, refuseOne_eq_refuseAt (gate_congr hg _), refuseOne_eq_refuseAt hyard]

/-- A deck that becomes FAULT, as one replacement of the deck and the refusals (R3, R19, R117). -/
theorem deckFault_eq (x : State) {s : State} {d : DeckId} (hg : x.gates = s.gates) :
    x.deckFault d = ((x.setDeck d { x.deck d with
      unit := { (x.deck d).unit with reading := { (x.deck d).unit.reading with availability := .fault } } }).refuseAt s
        (d.gate .road)).refuseAt s (d.gate .yard) :=
  refuseWaiting_eq (x := x.setDeck d _) hg

/-! ### The commands -/

/-- RETRY_CELL's checks in the order of R26. -/
theorem exec_retryCell {s : State} (h : s.listening) {b : Byte} {d : DeckId} (hd : deckOf b = some d) (cell : Byte) :
    exec (.retryCell b cell) s = .next (
      if 8 ≤ cell.toNat then s.answered Code.retryCell .outOfRange
      else match (s.deck d).cal.record with
        | none => s.answered Code.retryCell .deckUnavailable
        | some r =>
          if r.cells.getLsbD cell.toNat = true then
            (s.setDeck d { s.deck d with cells := { (s.deck d).cells with
              cells := (s.deck d).cells.cells.set cell.toNat ⟨0, false⟩ } }).answered Code.retryCell .done
          else s.answered Code.retryCell .notFound) := by
  change request Code.retryCell _ s = _
  rw [request_performed _ _ s h]
  simp only [hd]
  split
  · rfl
  · cases (s.deck d).cal.record with
    | none => rfl
    | some r =>
      by_cases he : r.cells.getLsbD cell.toNat = true
      · simp only [CalRecord.enabled, he, if_true]
        rfl
      · simp only [CalRecord.enabled, he]
        rfl

/-- A deck whose warm-up timer has lapsed: its skip count is 3 (R4, R19). -/
def Deck.warmedUp (k : Deck) : Deck :=
  { k with cells := { k.cells with skip := 3 }, unit := { k.unit with warmUp := none } }

/-- The lapse of a running warm-up timer of a deck without a FAILED enabled cell (R4, R19). -/
theorem exec_warmUpLapse_sound {s : State} {d : DeckId} {due : Nat} (hp : s.powered = true)
    (hdue : (s.deck d).unit.warmUp = some due)
    (hsound : ∀ r, (s.deck d).cal.record = some r → (s.deck d).anyFailed r = false) :
    exec (.warmUpLapse d) s = .next ((s.reach due).setDeck d (s.deck d).warmedUp) := by
  change execWarmUpLapse d s = _
  rw [execWarmUpLapse, event_powered _ s hp]
  simp only [hdue, deck_congr (reach_frame s due).2.2.2.2.1]
  cases hr : (s.deck d).cal.record with
  | none => rfl
  | some r =>
    simp only [hsound r hr]
    rfl

/-- The lapse of a running warm-up timer of a deck with a FAILED enabled cell: FAULT (R19, R117). -/
theorem exec_warmUpLapse_failed {s : State} {d : DeckId} {due : Nat} {r : CalRecord} (hp : s.powered = true)
    (hdue : (s.deck d).unit.warmUp = some due) (hr : (s.deck d).cal.record = some r)
    (hfailed : (s.deck d).anyFailed r = true) :
    exec (.warmUpLapse d) s = .next (((s.reach due).setDeck d (s.deck d).warmedUp).deckFault d) := by
  change execWarmUpLapse d s = _
  rw [execWarmUpLapse, event_powered _ s hp]
  simp only [hdue, deck_congr (reach_frame s due).2.2.2.2.1, hr, hfailed, if_true]
  rfl

/-- Settles O8: RETRY_CELL by its checks; the warm-up by whether a cell of the enabled set is FAILED. -/
theorem retryCellAndWarmUp : Obligations.RetryCellAndWarmUp := by
  constructor
  · intro s b cell h
    cases hd : deckOf b with
    | none =>
      change request Code.retryCell _ s = _
      exact request_bare h (by simp only [hd])
    | some d => exact exec_retryCell h hd cell
  intro s d due hp hdue k failed s'
  constructor
  · intro hok
    refine exec_warmUpLapse_sound hp hdue fun r hr => ?_
    rw [← Bool.not_eq_true, anyFailed_iff]
    rintro ⟨i, hi⟩
    exact hok ⟨r, i, hr, hi⟩
  · rintro refuse ⟨r, i, hr, hi⟩
    rw [exec_warmUpLapse_failed hp hdue hr ((anyFailed_iff _ _).2 ⟨i, hi⟩), deckFault_eq ((s.reach due).setDeck d _) rfl,
      setDeck_setDeck, deck_setDeck, if_pos rfl]
    rfl

end Sys2Proof.Machine
end

section
/-! PROOFS. The cell link (R1 to R5, R188, R189): slot boundaries, answer frames, exchanges and misses. -/

namespace Sys2Proof.Machine

/-! ### Polling (R1) -/

/-- A READ to the next cell, as one replacement of the deck (R1, R2). -/
theorem pollNext_cons (s : State) (d : DeckId) (warming : Bool) (i : Nat) (rest : List Nat) (good : List Good) :
    s.pollNext d warming (i :: rest) good = s.setDeck d { s.deck d with
      cells := { (s.deck d).cells with cycle := some ⟨warming, i, rest, good, s.now + 2000⟩ } } := rfl

/-- The end of a cycle, with its evaluation (R1, R6). -/
theorem pollNext_nil (s : State) (d : DeckId) (warming : Bool) (good : List Good) :
    s.pollNext d warming [] good =
      (s.setDeck d { s.deck d with cells := { (s.deck d).cells with cycle := none } }).evaluate d warming good := rfl

/-- The polled cells of a calibrated deck (R1). -/
theorem polled_of_record {k : Deck} {r : CalRecord} (hr : k.cal.record = some r) :
    k.polled = (List.range 8).filter fun i => r.cells.getLsbD i && !(k.cells.cell i).failed := by
  simp only [Deck.polled, hr, CalRecord.enabledCells, List.filter_filter, CalRecord.enabled, Bool.and_comm]

/-- A deck without a record has no cell to poll (R1). -/
theorem polled_of_absent {k : Deck} (hr : k.cal.record = none) : k.polled = [] := by
  simp only [Deck.polled, hr]

/-! ### Slot boundaries (R1, R4) -/

/-- A deck whose slot boundary has passed (R1). -/
def Deck.slotPassed (k : Deck) : Deck := { k with cells := { k.cells with slotDue := k.cells.slotDue + 50000 } }

theorem slotPassed_eq (s : State) (d : DeckId) :
    s.slotPassed d = (s.reach (s.deck d).cells.slotDue).setDeck d (s.deck d).slotPassed := rfl

/-- At REDUCED rate below a skip count of 3 the slot counts a skip (R4). -/
theorem takeSlot_skips {s : State} {d : DeckId} (h : ¬ (s.pollRate d = .full ∨ (s.deck d).cells.skip = 3)) :
    s.takeSlot d = s.setDeck d { s.deck d with
      cells := { (s.deck d).cells with skip := (s.deck d).cells.skip + 1 } } := by
  unfold State.takeSlot
  dsimp only
  rw [if_neg h]
  rfl

/-- At FULL rate or at a skip count of 3 a cycle begins, over the polled cells (R1, R4). -/
theorem takeSlot_begins {s : State} {d : DeckId} (h : s.pollRate d = .full ∨ (s.deck d).cells.skip = 3) :
    s.takeSlot d = (s.setDeck d { s.deck d with cells := { (s.deck d).cells with skip := 0 } }).pollNext d
      ((s.deck d).unit.reading.availability == .warming) (s.deck d).polled [] := by
  unfold State.takeSlot
  dsimp only
  rw [if_pos h]
  rfl

/-- Where cycles do not run, or one is in progress, the slot only passes (R1; log 25). -/
theorem exec_cycleSlot_passes {s : State} {d : DeckId} (hp : s.powered = true)
    (h : ¬ ((s.deck d).unit.cycling = true ∧ (s.deck d).cells.cycle = none)) :
    exec (.cycleSlot d) s = .next (s.slotPassed d) := by
  have hcond : ((s.deck d).unit.cycling && (s.deck d).cells.cycle.isNone) = false := by
    rw [← Bool.not_eq_true, Bool.and_eq_true, Option.isNone_iff_eq_none]
    exact h
  change execCycleSlot d s = _
  rw [execCycleSlot, event_powered _ s hp]
  simp only [hcond]
  rfl

/-- Where cycles run and none is in progress, the slot is taken once it has passed (R1, R4). -/
theorem exec_cycleSlot_takes {s : State} {d : DeckId} (hp : s.powered = true) (hc : (s.deck d).unit.cycling = true)
    (hn : (s.deck d).cells.cycle = none) : exec (.cycleSlot d) s = .next ((s.slotPassed d).takeSlot d) := by
  change execCycleSlot d s = _
  rw [execCycleSlot, event_powered _ s hp]
  simp only [hc, hn, Option.isNone_none, Bool.and_self, if_true]

/-- A slot that is taken: the rate and the skip count are those before it passed (R4). -/
theorem takes_slotPassed_iff (s : State) (d : DeckId) :
    ((s.slotPassed d).pollRate d = .full ∨ ((s.slotPassed d).deck d).cells.skip = 3) ↔
      ((s.deck d).session ≠ none ∨ (s.gate (d.gate .road)).occupied = true ∨ (s.gate (d.gate .yard)).occupied = true) ∨
        (s.deck d).cells.skip = 3 := by
  have hdeck : (s.slotPassed d).deck d = (s.deck d).slotPassed := by rw [slotPassed_eq, deck_setDeck, if_pos rfl]
  have hgate (g : GateId) : (s.slotPassed d).gate g = s.gate g := rfl
  rw [pollRate_eq_full_iff, hdeck, hgate, hgate]
  rfl

/-- A slot that begins a cycle: what is polled, and how the cycle begins, are the deck's before it passed (R1, R4). -/
theorem takeSlot_slotPassed {s : State} {d : DeckId}
    (h : ((s.deck d).session ≠ none ∨ (s.gate (d.gate .road)).occupied = true ∨ (s.gate (d.gate .yard)).occupied = true) ∨
      (s.deck d).cells.skip = 3) :
    (s.slotPassed d).takeSlot d = ((s.reach (s.deck d).cells.slotDue).setDeck d { (s.deck d).slotPassed with
      cells := { (s.deck d).slotPassed.cells with skip := 0 } }).pollNext d
        (decide ((s.deck d).unit.reading.availability = .warming)) (s.deck d).polled [] := by
  rw [takeSlot_begins ((takes_slotPassed_iff s d).2 h), slotPassed_eq, setDeck_setDeck, deck_setDeck, if_pos rfl]
  rfl

/-- Settles O9: by whether cycles run, by the rate and the skip count, and by what is polled. -/
theorem cycleSlotPollsByRate : Obligations.CycleSlotPollsByRate := by
  intro s d hp k passed s' runs full polled
  have hpolled : (s.deck d).polled = polled := by
    cases hr : (s.deck d).cal.record with
    | none => simp only [polled, k, hr, polled_of_absent hr]
    | some r => simp only [polled, k, hr, polled_of_record hr]
  refine ⟨fun h => ?_, fun hruns hnone hfull hskip => ?_, ?_⟩
  · refine exec_cycleSlot_passes hp fun ⟨hc, hn⟩ => h ⟨(cycling_iff _).1 hc, hn⟩
  · have hnot := mt (takes_slotPassed_iff s d).1 (not_or.2 ⟨hfull, hskip⟩)
    rw [exec_cycleSlot_takes hp ((cycling_iff _).2 hruns) hnone, takeSlot_skips hnot, slotPassed_eq, setDeck_setDeck,
      deck_setDeck, if_pos rfl]
    rfl
  intro warming
  refine ⟨fun i rest hruns hnone htakes hcons => ?_, fun hruns hnone htakes hnil => ?_⟩
  · rw [exec_cycleSlot_takes hp ((cycling_iff _).2 hruns) hnone, takeSlot_slotPassed htakes, hpolled, hcons, pollNext_cons,
      setDeck_setDeck, deck_setDeck, if_pos rfl]
    rfl
  · rw [exec_cycleSlot_takes hp ((cycling_iff _).2 hruns) hnone, takeSlot_slotPassed htakes, hpolled, hnil, pollNext_nil,
      setDeck_setDeck, deck_setDeck, if_pos rfl]
    rfl

end Sys2Proof.Machine
end

section
/-! PROOFS. An exchange on the cell link (R1 to R3, R20, R117, R188, R189): the answer frame, good answers, misses, and
the third miss. -/

namespace Sys2Proof.Machine

/-! ### The answer frame (R188, R189) -/

/-- A signed 24-bit field of three bytes, most significant first (R184). -/
theorem signedField24 (c1 c2 c3 : Byte) :
    (BitVec.ofNat 24 (natOfBytes [c1, c2, c3])).toInt =
      (c1.toNat * 65536 + c2.toNat * 256 + c3.toNat : Nat) - (if 128 ≤ c1.toNat then (16777216 : Int) else 0) := by
  have hvalue : natOfBytes [c1, c2, c3] = c1.toNat * 65536 + c2.toNat * 256 + c3.toNat := by
    simp only [natOfBytes, List.foldl_cons, List.foldl_nil]
    omega
  have h1 := c1.isLt
  have h2 := c2.isLt
  have h3 := c3.isLt
  rw [hvalue, BitVec.toInt_eq_toNat_cond, BitVec.toNat_ofNat, Nat.mod_eq_of_lt (by omega)]
  split <;> split <;> omega

/-- A list of seven bytes, byte by byte. -/
theorem length_eq_seven_iff (f : List Byte) : f.length = 7 ↔ ∃ a b c d e g h : Byte, f = [a, b, c, d, e, g, h] := by
  constructor
  · intro hf
    match f, hf with
    | [a, b, c, d, e, g, h], _ => exact ⟨a, b, c, d, e, g, h, rfl⟩
  · rintro ⟨a, b, c, d, e, g, h, rfl⟩
    rfl

/-- The fields of seven bytes read as an answer frame (R188, R189). -/
theorem cellFrame_of_bytes (b0 address c1 c2 c3 status check : Byte) :
    cellFrame [b0, address, c1, c2, c3, status, check] =
      if b0 = 0xA3 ∧ b0 + address + c1 + c2 + c3 + status + check = 0 then
        some (address.toNat, (BitVec.ofNat 24 (natOfBytes [c1, c2, c3])).toInt, status.toNat)
      else none := by
  have hsum : byteSum [b0, address, c1, c2, c3, status, check] = b0 + address + c1 + c2 + c3 + status + check := by
    simp [byteSum]
  unfold cellFrame
  rw [hsum]
  refine if_congr ?_ rfl rfl
  simp [byteAt]

/-- An answer frame is seven bytes that begin with A3h and sum to 0, and its fields stand in their places. -/
theorem cellFrame_eq_some_iff (f : List Byte) (a : Nat) (count : Int) (st : Nat) :
    cellFrame f = some (a, count, st) ↔
      ∃ address c1 c2 c3 status check : Byte, f = [0xA3, address, c1, c2, c3, status, check] ∧
        0xA3 + address + c1 + c2 + c3 + status + check = 0 ∧ a = address.toNat ∧ st = status.toNat ∧
        count = (c1.toNat * 65536 + c2.toNat * 256 + c3.toNat : Nat) - (if 128 ≤ c1.toNat then (16777216 : Int) else 0) := by
  constructor
  · intro h
    have hlen : f.length = 7 := by
      unfold cellFrame at h
      split at h
      · next hf => exact hf.1
      · cases h
    obtain ⟨b0, address, c1, c2, c3, status, check, rfl⟩ := (length_eq_seven_iff f).1 hlen
    rw [cellFrame_of_bytes] at h
    split at h
    · next hf =>
      obtain ⟨rfl, hsum⟩ := hf
      simp only [Option.some.injEq, Prod.mk.injEq] at h
      obtain ⟨rfl, rfl, rfl⟩ := h
      exact ⟨address, c1, c2, c3, status, check, rfl, hsum, rfl, rfl, signedField24 c1 c2 c3⟩
    · cases h
  · rintro ⟨address, c1, c2, c3, status, check, rfl, hsum, rfl, rfl, rfl⟩
    rw [cellFrame_of_bytes, if_pos ⟨rfl, hsum⟩, signedField24]

/-! ### The frames and windows of a cycle (R2) -/

/-- A frame that comes with no window open, or fails its check, changes nothing (R2, R189). -/
theorem exec_cellAnswer_ignored {s : State} {d : DeckId} {f : List Byte} (hp : s.powered = true)
    (h : (s.deck d).cells.cycle = none ∨ cellFrame f = none) : exec (.cellAnswer d f) s = .next s := by
  change execCellAnswer d f s = _
  rw [execCellAnswer, event_powered _ s hp]
  rcases h with h | h
  · simp only [h]
  · simp only [h]
    cases (s.deck d).cells.cycle <;> rfl

/-- A frame that passes its check ends the exchange of the cycle in progress (R2). -/
theorem exec_cellAnswer_ends {s : State} {d : DeckId} {f : List Byte} {c : Cycle} {a : Nat × Int × Nat}
    (hp : s.powered = true) (hc : (s.deck d).cells.cycle = some c) (hf : cellFrame f = some a) :
    exec (.cellAnswer d f) s = .next (s.endExchange d c (goodAnswer c.awaiting a)) := by
  change execCellAnswer d f s = _
  rw [execCellAnswer, event_powered _ s hp]
  simp only [hc, hf]

/-- The lapse of the answer window is a miss (R2). -/
theorem exec_answerWindowLapse_ends {s : State} {d : DeckId} {c : Cycle} (hp : s.powered = true)
    (hc : (s.deck d).cells.cycle = some c) :
    exec (.answerWindowLapse d) s = .next ((s.reach c.windowDue).endExchange d c none) := by
  change execAnswerWindowLapse d s = _
  rw [execAnswerWindowLapse, event_powered _ s hp]
  simp only [hc]

/-- An answer of the address that was read with status OK or OVERRANGE is good (R2). -/
theorem goodAnswer_good {i : Nat} {count : Int} {st : Nat} (h : st ≤ 1) :
    goodAnswer i (i, count, st) = some ⟨i, count, decide (st = 1)⟩ := by
  simp only [goodAnswer, h, and_self, if_true]
  rfl

/-- An answer of another address or status is a miss (R2). -/
theorem goodAnswer_miss {i a : Nat} {count : Int} {st : Nat} (h : a ≠ i ∨ 1 < st) : goodAnswer i (a, count, st) = none := by
  have hnot : ¬ (a = i ∧ st ≤ 1) := by omega
  simp only [goodAnswer, if_neg hnot]

/-! ### Good answers and misses (R3) -/

/-- After the awaited cell is written, the next READ opens its window (R1, R2). -/
theorem setCell_pollNext_cons (s : State) (d : DeckId) (i : Nat) (x : Cell) (warming : Bool) (j : Nat) (rest : List Nat)
    (good : List Good) :
    (s.setCell d i x).pollNext d warming (j :: rest) good = s.setDeck d { s.deck d with cells := { (s.deck d).cells with
      cells := (s.deck d).cells.cells.set i x, cycle := some ⟨warming, j, rest, good, s.now + 2000⟩ } } := by
  cases d <;> rfl

/-- After the last cell is written, the cycle ends with its evaluation (R1, R6). -/
theorem setCell_pollNext_nil (s : State) (d : DeckId) (i : Nat) (x : Cell) (warming : Bool) (good : List Good) :
    (s.setCell d i x).pollNext d warming [] good = (s.setDeck d { s.deck d with cells := { (s.deck d).cells with
      cells := (s.deck d).cells.cells.set i x, cycle := none } }).evaluate d warming good := by
  cases d <;> rfl

/-- A miss short of the third is counted (R3). -/
theorem missCell_counts {s : State} {d : DeckId} {i : Nat} (h : ((s.deck d).cells.cell i).misses < 2) :
    s.missCell d i = s.setCell d i ⟨((s.deck d).cells.cell i).misses + 1, ((s.deck d).cells.cell i).failed⟩ := by
  unfold State.missCell
  dsimp only
  rw [if_pos (by omega)]

/-- Settles O10: the frame byte by byte; good answers and counted misses, with cells still to read and without. -/
theorem cellExchangeGoesOn : Obligations.CellExchangeGoesOn := by
  refine ⟨cellFrame_eq_some_iff, ?_⟩
  intro s d hp k
  refine ⟨fun f h => exec_cellAnswer_ignored hp h, ?_⟩
  intro c hc cell goOn
  have hgoOn (t : State) (ht : t.deck d = s.deck d) (x : Cell) (good : List Good) :
      (t.setCell d c.awaiting x).pollNext d c.warming c.todo good = goOn t x good := by
    cases htodo : c.todo with
    | nil =>
      simp only [goOn, htodo]
      rw [setCell_pollNext_nil, ht]
    | cons i rest =>
      simp only [goOn, htodo]
      rw [setCell_pollNext_cons, ht]
  refine ⟨fun f count st hf hst => ?_, fun hmisses => ⟨fun f a count st hf hmiss => ?_, ?_⟩⟩
  · rw [exec_cellAnswer_ends hp hc hf, goodAnswer_good hst, ← hgoOn s rfl]
    rfl
  · rw [exec_cellAnswer_ends hp hc hf, goodAnswer_miss hmiss, ← hgoOn s rfl]
    unfold State.endExchange
    dsimp only
    rw [missCell_counts hmisses]
  · have hreach : (s.reach c.windowDue).deck d = s.deck d := rfl
    rw [exec_answerWindowLapse_ends hp hc]
    unfold State.endExchange
    dsimp only
    rw [missCell_counts (hreach ▸ hmisses), hreach, hgoOn _ hreach]
    rfl

end Sys2Proof.Machine
end

section
/-! PROOFS. The third consecutive miss of a cell (R3, R20, R117). -/

namespace Sys2Proof.Machine

/-! ### A deck replaced after notices and refusals -/

@[simp] theorem deck_raise (s : State) (n : NoticeKind) (x : Detail) (d : DeckId) : (s.raise n x).deck d = s.deck d := rfl

theorem setDeck_raise (s : State) (n : NoticeKind) (x : Detail) (d : DeckId) (k : Deck) :
    (s.raise n x).setDeck d k = (s.setDeck d k).raise n x := rfl

@[simp] theorem deck_refuseAt (x s : State) (g : GateId) (d : DeckId) : (x.refuseAt s g).deck d = x.deck d := by
  unfold State.refuseAt
  split <;> rfl

@[simp] theorem now_refuseAt (x s : State) (g : GateId) : (x.refuseAt s g).now = x.now := by
  unfold State.refuseAt
  split <;> rfl

theorem setDeck_refuseAt (x s : State) (g : GateId) (d : DeckId) (k : Deck) :
    (x.refuseAt s g).setDeck d k = (x.setDeck d k).refuseAt s g := by
  unfold State.refuseAt
  split <;> rfl

/-! ### The third miss -/

/-- A deck whose cell at an address is FAILED by its third miss (R3). -/
def Deck.withFailed (k : Deck) (i : Nat) : Deck :=
  { k with cells := { k.cells with cells := k.cells.cells.set i ⟨3, true⟩ } }

/-- A deck in FAULT (R20). -/
def Deck.faulted (k : Deck) : Deck :=
  { k with unit := { k.unit with reading := { k.unit.reading with availability := .fault } } }

/-- The third miss on a READY or WARMING deck: the cell FAILED, DECK_FAULT, the deck FAULT and its calls refused (R3). -/
theorem missCell_faults {x s : State} {d : DeckId} {i : Nat} (hg : x.gates = s.gates)
    (hm : 2 ≤ ((x.deck d).cells.cell i).misses)
    (ha : (x.deck d).unit.reading.availability = .ready ∨ (x.deck d).unit.reading.availability = .warming) :
    x.missCell d i = (((x.setDeck d ((x.deck d).withFailed i).faulted).raise .deckFault (.cell d i)).refuseAt s
      (d.gate .road)).refuseAt s (d.gate .yard) := by
  have hset : x.setCell d i { misses := 3, failed := true } = x.setDeck d ((x.deck d).withFailed i) := rfl
  have hdeck : ((x.setDeck d ((x.deck d).withFailed i)).raise .deckFault (.cell d i)).deck d =
      (x.deck d).withFailed i := by rw [deck_raise, deck_setDeck, if_pos rfl]
  have hfault : ((x.setDeck d ((x.deck d).withFailed i)).raise .deckFault (.cell d i)).deckFault d =
      (((x.setDeck d ((x.deck d).withFailed i).faulted).raise .deckFault (.cell d i)).refuseAt s
        (d.gate .road)).refuseAt s (d.gate .yard) := by
    rw [deckFault_eq ((x.setDeck d _).raise _ _) hg, hdeck, setDeck_raise, setDeck_setDeck]
    rfl
  unfold State.missCell
  dsimp only
  rw [if_neg (by omega), hset, hdeck]
  rcases ha with ha | ha
  · simp only [Deck.withFailed, ha] at hfault ⊢
    exact hfault
  · simp only [Deck.withFailed, ha] at hfault ⊢
    exact hfault

/-- The third miss on a deck that is neither READY nor WARMING: the cell FAILED and DECK_FAULT alone (R3). -/
theorem missCell_fails {x : State} {d : DeckId} {i : Nat} (hm : 2 ≤ ((x.deck d).cells.cell i).misses)
    (ha : ¬ ((x.deck d).unit.reading.availability = .ready ∨ (x.deck d).unit.reading.availability = .warming)) :
    x.missCell d i = (x.setDeck d ((x.deck d).withFailed i)).raise .deckFault (.cell d i) := by
  have hset : x.setCell d i { misses := 3, failed := true } = x.setDeck d ((x.deck d).withFailed i) := rfl
  have hdeck : ((x.setDeck d ((x.deck d).withFailed i)).raise .deckFault (.cell d i)).deck d =
      (x.deck d).withFailed i := by rw [deck_raise, deck_setDeck, if_pos rfl]
  unfold State.missCell
  dsimp only
  rw [if_neg (by omega), hset, hdeck]
  split
  · next h => exact absurd (.inl h) ha
  · next h => exact absurd (.inr h) ha
  · rfl

/-- Settles O11: the third miss on a deck that becomes FAULT and on one that does not, then the next READ or the end. -/
theorem thirdMissFailsTheCell : Obligations.ThirdMissFailsTheCell := by
  intro s d c hp hc hmisses k faults k' refuse missed goOn
  have hgoOn (t : State) (ht : t.decks = s.decks) (hg : t.gates = s.gates) : t.endExchange d c none = goOn t := by
    have hdeck : t.deck d = k := deck_congr ht d
    have hmissed (cycle : Option Cycle) :
        (t.missCell d c.awaiting).setDeck d { (t.missCell d c.awaiting).deck d with
          cells := { ((t.missCell d c.awaiting).deck d).cells with cycle := cycle } } = missed t cycle := by
      by_cases hf : faults
      · have hrefuse (g : GateId) (x : State) : refuse g x = x.refuseAt s g := by
          simp only [refuse, hf, not_true_eq_false, false_or]
          rfl
        rw [missCell_faults hg (by rwa [hdeck]) (by rwa [hdeck])]
        simp only [missed, hrefuse, k', if_pos hf, setDeck_refuseAt, deck_refuseAt, deck_raise, setDeck_raise,
          setDeck_setDeck, deck_setDeck, if_true, hdeck]
        rfl
      · have hrefuse (g : GateId) (x : State) : refuse g x = x := by
          simp only [refuse, hf, not_false_eq_true, true_or, if_true]
        rw [missCell_fails (by rwa [hdeck]) (by rwa [hdeck])]
        simp only [missed, hrefuse, k', if_neg hf, deck_raise, setDeck_raise, setDeck_setDeck, deck_setDeck, if_true, hdeck]
        rfl
    have hnow : (t.missCell d c.awaiting).now = t.now := by
      by_cases hf : faults
      · rw [missCell_faults hg (by rwa [hdeck]) (by rwa [hdeck]), now_refuseAt, now_refuseAt]
        rfl
      · rw [missCell_fails (by rwa [hdeck]) (by rwa [hdeck])]
        rfl
    unfold State.endExchange
    dsimp only
    cases htodo : c.todo with
    | nil =>
      rw [pollNext_nil, hmissed]
      simp only [goOn, htodo]
    | cons i rest =>
      rw [pollNext_cons, hmissed, hnow]
      simp only [goOn, htodo]
  refine ⟨?_, fun f a count st hf hmiss => ?_⟩
  · rw [exec_answerWindowLapse_ends hp hc, hgoOn (s.reach c.windowDue) rfl rfl]
    rfl
  · rw [exec_cellAnswer_ends hp hc hf, goodAnswer_miss hmiss, hgoOn s rfl rfl]

end Sys2Proof.Machine
end

section
/-! PROOFS. Quiet running (R14, R19, R21, R145 to R148): QUIET, the wake for every cause, and WAKE. -/

namespace Sys2Proof.Machine

/-! ### Decks that fall asleep and wake -/

/-- The reading of a deck that falls asleep or wakes: status NONE, the counts 0 (R19, R21). -/
def Reading.emptied (x : Reading) (a : Availability) : Reading :=
  { x with availability := a, status := .noStatus, current := false, still := 0, track := 0 }

/-- A deck that QUIET finds (R21): ASLEEP where it was WARMING, READY or FAULT. -/
def Deck.asleep (k : Deck) : Deck :=
  match k.unit.reading.availability with
  | .uncalibrated | .asleep => k
  | _ => { k with
      cells := { k.cells with cycle := none }
      unit := { k.unit with refPresent := false, warmUp := none, reading := k.unit.reading.emptied .asleep } }

/-- A deck that a wake finds (R14, R19, R21): WARMING with its working zero at Z_set where it was ASLEEP. -/
def Deck.awake (k : Deck) (now : Nat) : Deck :=
  match k.unit.reading.availability with
  | .asleep => { k with
      cells := { k.cells with cycle := none }
      unit := { zd := k.cal.zSet, refPresent := false, warmUp := some (now + 2000000)
                ref := if k.unit.refPresent = true then k.unit.ref - (k.cal.zSet - k.unit.zd) else k.unit.ref
                reading := k.unit.reading.emptied .warming } }
  | _ => k

theorem enterAsleep_eq (s : State) (d : DeckId) : s.enterAsleep d = s.setDeck d (s.deck d).asleep := by
  cases ha : (s.deck d).unit.reading.availability
  case uncalibrated | asleep => simp only [State.enterAsleep, Deck.asleep, ha, setDeck_self]
  all_goals
    simp only [State.enterAsleep, Deck.asleep, ha]
    rfl

theorem wakeDeck_eq (s : State) (d : DeckId) : s.wakeDeck d = s.setDeck d ((s.deck d).awake s.now) := by
  by_cases ha : (s.deck d).unit.reading.availability = .asleep
  · rw [wakeDeck_asleep ha, Deck.awake, ha]
    rfl
  · have hawake : (s.deck d).awake s.now = s.deck d := by
      unfold Deck.awake
      split
      · next h => exact absurd h ha
      · rfl
    rw [wakeDeck_awake ha, hawake, setDeck_self]

/-- Both decks replaced, deck 1 then deck 2, each by a function of itself. -/
theorem eachDeck_replace {f : State → DeckId → State} (g : Nat → Deck → Deck)
    (hf : ∀ s d, f s d = s.setDeck d (g s.now (s.deck d))) (s : State) :
    s.eachDeck f = { s with decks := ⟨g s.now s.decks.d1, g s.now s.decks.d2⟩ } := by
  unfold State.eachDeck
  rw [hf, hf]
  rfl

/-- A wake ends quiet running with its cause, wakes both decks, and raises WOKEN (R148). -/
theorem wakeYard_eq (s : State) (c : WakeCause) :
    s.wakeYard c = State.raise { s with
      service := { s.service with quiet := false, wake := some c }
      decks := ⟨s.decks.d1.awake s.now, s.decks.d2.awake s.now⟩ } .woken (.wake c) := by
  unfold State.wakeYard
  dsimp only
  rw [eachDeck_replace (fun now k => k.awake now) wakeDeck_eq]

/-! ### The requests -/

/-- The conditions that refuse QUIET with BUSY (R145, steps 2 to 6). -/
theorem quietBusy_iff (s : State) :
    s.quietBusy = true ↔ s.emergency.latch = true ∨ s.decks.d1.session ≠ none ∨ s.decks.d2.session ≠ none ∨
      (s.gates.g1R.waiting ≠ none ∨ s.gates.g1R.barrier ≠ .down) ∨
      (s.gates.g1Y.waiting ≠ none ∨ s.gates.g1Y.barrier ≠ .down) ∨
      (s.gates.g2R.waiting ≠ none ∨ s.gates.g2R.barrier ≠ .down) ∨
      (s.gates.g2Y.waiting ≠ none ∨ s.gates.g2Y.barrier ≠ .down) ∨ s.printing.job ≠ none := by
  simp only [State.quietBusy, Bool.or_eq_true, Option.isSome_iff_ne_none, bne_iff_ne, or_assoc]
  rfl

/-- QUIET's checks in the order of R145. -/
theorem exec_quiet {s : State} (h : s.listening) :
    exec .quiet s = .next (
      if s.service.quiet = true then s.answered Code.quiet .wrongState
      else if s.quietBusy = true then s.answered Code.quiet .busy
      else State.answered { s with
        service := { s.service with quiet := true, wake := none }
        decks := ⟨s.decks.d1.asleep, s.decks.d2.asleep⟩ } Code.quiet .done) := by
  change request Code.quiet _ s = _
  rw [request_performed _ _ s h, eachDeck_replace (fun _ k => k.asleep) enterAsleep_eq]
  split_ifs <;> rfl

/-- WAKE (R147). -/
theorem exec_wake {s : State} (h : s.listening) :
    exec .wake s = .next (
      if s.service.quiet = true then (s.wakeYard .host).answered Code.wake .done
      else s.answered Code.wake .wrongState) := by
  change request Code.wake _ s = _
  rw [request_performed _ _ s h]
  split_ifs <;> rfl

/-- Settles O45: the decks asleep and awake, then QUIET and WAKE by their checks. -/
theorem quietSleepsAndWakeWarms : Obligations.QuietSleepsAndWakeWarms := by
  intro s busyGate busy cleared asleep awake woken
  have hwoken (c : WakeCause) : s.wakeYard c = woken c := wakeYard_eq s c
  have hasleep : s.quietBusy = true ↔ busy := quietBusy_iff s
  refine ⟨hwoken, fun h hbusy hq => ?_, fun h hq => ?_, fun h hbusy hq => ?_, fun h hq => ?_, fun h hq => ?_⟩
  · rw [exec_quiet h, if_neg (by simp [hq]), if_pos (hasleep.2 hbusy)]
  · rw [exec_quiet h, if_pos hq]
  · rw [exec_quiet h, if_neg (by simp [hq]), if_neg (mt hasleep.1 hbusy)]
    rfl
  · rw [exec_wake h, if_neg (by simp [hq])]
  · rw [exec_wake h, if_pos hq, hwoken]

end Sys2Proof.Machine
end

section
/-! PROOFS. CLEAR_TABLES and the loss of the main supply (R22, R28, R66, R89, R117, R182, R183). -/

namespace Sys2Proof.Machine

/-! ### Every waiting call refused, in the order of the gates (R117; log 14) -/

/-- CALL_REFUSED for the waiting call that a gate held in a state `s`, raised in a state `x`. -/
def State.noteRefused (x s : State) (g : GateId) : State :=
  if (s.gate g).waiting = none then x else x.raise .callRefused (.refusal g .deckUnavailable)

@[simp] theorem gate_noteRefused (x s : State) (g h : GateId) : (x.noteRefused s g).gate h = x.gate h := by
  unfold State.noteRefused
  split <;> rfl

@[simp] theorem gate_dropWaiting (x : State) (g h : GateId) :
    (x.dropWaiting g).gate h = if h = g then { x.gate g with waiting := none } else x.gate h :=
  gate_setGate _ _ _ _

/-- A gate's call is dropped as well before as after another gate's refusal is noted. -/
theorem dropWaiting_noteRefused (x s : State) (g h : GateId) :
    (x.noteRefused s g).dropWaiting h = (x.dropWaiting h).noteRefused s g := by
  unfold State.noteRefused
  split <;> rfl

/-- A gate without a waiting call has none to drop. -/
theorem dropWaiting_of_none {x : State} {g : GateId} (h : (x.gate g).waiting = none) : x.dropWaiting g = x := by
  have hgate : { x.gate g with waiting := none } = x.gate g := by rw [← h]
  unfold State.dropWaiting
  rw [hgate]
  cases g <;> rfl

/-- A refusal is a call dropped and its refusal noted. -/
theorem refuseOne_eq_note {x s : State} {g : GateId} (hg : x.gate g = s.gate g) :
    x.refuseOne g = (x.dropWaiting g).noteRefused s g := by
  unfold State.refuseOne State.noteRefused
  rw [hg]
  cases hw : (s.gate g).waiting with
  | none => exact (dropWaiting_of_none (hg ▸ hw)).symm
  | some c => rfl

/-- Every waiting call of the yard refused: the four gates emptied, and the refusals noted in their order. -/
theorem refuseAllWaiting_eq {x s : State} (hg : x.gates = s.gates) :
    x.refuseAllWaiting = ((((((((x.dropWaiting .g1R).dropWaiting .g1Y).dropWaiting .g2R).dropWaiting .g2Y).noteRefused s
      .g1R).noteRefused s .g1Y).noteRefused s .g2R).noteRefused s .g2Y) := by
  have hgate (g : GateId) : x.gate g = s.gate g := gate_congr hg g
  change (((x.refuseOne .g1R).refuseOne .g1Y).refuseOne .g2R).refuseOne .g2Y = _
  rw [refuseOne_eq_note (hgate .g1R), refuseOne_eq_note (s := s) (g := .g1Y) (by simp [hgate]),
    refuseOne_eq_note (s := s) (g := .g2R) (by simp [hgate]), refuseOne_eq_note (s := s) (g := .g2Y) (by simp [hgate])]
  simp only [dropWaiting_noteRefused]

/-! ### The commands -/

/-- CLEAR_TABLES' checks in the order of R183. -/
theorem exec_clearTables {s : State} (h : s.listening) (closed : Bool) :
    exec (.clearTables closed) s = .next (
      if closed = false then s.answered Code.clearTables .guarded
      else if s.decks.d1.session ≠ none ∨ s.decks.d2.session ≠ none then s.answered Code.clearTables .busy
      else s.clearTables.answered Code.clearTables .done) := by
  have hbusy : ((s.deck .d1).session.isSome || (s.deck .d2).session.isSome) = true ↔
      s.decks.d1.session ≠ none ∨ s.decks.d2.session ≠ none := by
    simp only [Bool.or_eq_true, Option.isSome_iff_ne_none]
    rfl
  change request Code.clearTables _ s = _
  rw [request_performed _ _ s h]
  simp only [Bool.not_eq_true', hbusy]
  split_ifs <;> rfl

/-- Settles O52: CLEAR_TABLES by its checks and refusals; the loss of the supply field by field. -/
theorem tablesClearAndSupplyFails : Obligations.TablesClearAndSupplyFails := by
  intro s cleared unheld t refusal
  refine ⟨fun closed h => ?_, fun fails => ?_⟩
  · have hclear : s.clearTables = refusal .g2Y (refusal .g2R (refusal .g1Y (refusal .g1R t))) :=
      refuseAllWaiting_eq rfl
    rw [exec_clearTables h, hclear]
  · have hmark : (s.service.mark && !fails) = true ↔ s.service.mark = true ∧ fails = false := by
      rw [Bool.and_eq_true, Bool.not_eq_true']
    refine ⟨_, rfl, rfl, hmark, fun d => ?_, fun g => ?_, rfl, rfl, rfl, rfl, rfl, rfl, rfl, rfl, rfl, rfl, rfl⟩
    · cases d <;> exact ⟨rfl, rfl⟩
    · cases g <;> exact ⟨rfl, rfl, rfl⟩

end Sys2Proof.Machine
end

section
/-! PROOFS. Resets (R18, R24, R66, R90, R108, R143, R173, R181, R182): what setting the latch does to a yard without
sessions, and each block after a reset. -/

namespace Sys2Proof.Machine

/-! ### The latch set in a yard without sessions (R105, R138 to R140, R143) -/

/-- The barrier in a forced DRIVE, or FORCED at once with the up switch ACTIVE (R93, R105). -/
def Gate.driven (k : Gate) (now : Nat) : Barrier :=
  if k.upSwitch = true then .forced else .raising .drive .emergency (now + k.driveLimit * 1000000) true

theorem driven_ne_fault (k : Gate) (now : Nat) : k.driven now ≠ .fault := by
  unfold Gate.driven
  split <;> nofun

/-- A gate after the forced raise (R105). -/
def Gate.raisedByForce (k : Gate) (now : Nat) : Gate :=
  { k with
    request := none
    barrier := match k.barrier with
      | .raising .settle _ _ _ | .up | .forced => .forced
      | .fault => if k.upSwitch = true ∧ k.downSwitch = true then .fault else k.driven now
      | _ => k.driven now }

theorem raiseDrive_forced (k : Gate) (now : Nat) :
    k.raiseDrive now .emergency true = { k with barrier := k.driven now } := by
  unfold Gate.raiseDrive Gate.reachUp Gate.driven
  split <;> rfl

theorem forcedRaise_eq (k : Gate) (now : Nat) : k.forcedRaise now = k.raisedByForce now := by
  unfold Gate.forcedRaise Gate.raisedByForce
  simp only [raiseDrive_forced]
  cases hb : k.barrier with
  | raising p o due f => cases p <;> rfl
  | fault =>
    simp only [Bool.and_eq_true]
    split
    · rw [← hb]
    · rfl
  | forced => simp only [← hb]
  | down | up | lowering p o due => rfl

/-- The forced raise puts no barrier into FAULT (R105). -/
theorem forcedRaise_fault {k : Gate} {now : Nat} (h : (k.forcedRaise now).barrier = .fault) : k.barrier = .fault := by
  rw [forcedRaise_eq] at h
  unfold Gate.raisedByForce at h
  cases hb : k.barrier with
  | raising p o due f => cases p <;> simp [hb, driven_ne_fault] at h
  | fault => rfl
  | down | up | forced | lowering p o due => simp [hb, driven_ne_fault] at h

/-- A gate event in a yard without sessions that puts no barrier into FAULT only writes the gate (R93, R100). -/
theorem gateEvent_vacant {s : State} {g : GateId} {f : Gate → Gate} (hs : (s.deck g.deck).session = none)
    (hf : (f (s.gate g)).barrier = .fault → (s.gate g).barrier = .fault) : s.gateEvent g f = s.setGate g (f (s.gate g)) := by
  have hgate : (s.setGate g (f (s.gate g))).gate g = f (s.gate g) := by rw [gate_setGate, if_pos rfl]
  have hsession : (s.setGate g (f (s.gate g))).sessionBarrier g = s.setGate g (f (s.gate g)) := by
    unfold State.sessionBarrier
    rw [deck_congr (setGate_frame s g _).2.2.2.2.2.1, hs]
  have hquiet : ¬ ((f (s.gate g)).barrier = .fault ∧ (s.gate g).barrier ≠ .fault) := fun ⟨h1, h2⟩ => h2 (hf h1)
  unfold State.gateEvent State.barrierMoved
  dsimp only
  rw [hgate, if_neg hquiet, hsession, ite_self]

/-- A session ended where there is none. -/
theorem setSession_vacant {s : State} {d : DeckId} (h : (s.deck d).session = none) : s.setSession d none = s := by
  have hdeck : { s.deck d with session := none } = s.deck d := by rw [← h]
  unfold State.setSession
  rw [hdeck, setDeck_self]

/-- The end of a session where there is none, with the deck's waiting calls dropped (R139, R140). -/
theorem abortSession_vacant {s : State} {d : DeckId} (h : (s.deck d).session = none) :
    (s.abortSession d).dropCalls d = ((s.setPass (d.gate .road) false).setPass (d.gate .yard) false).dropCalls d := by
  have hvacant : ((s.setPass (d.gate .road) false).setPass (d.gate .yard) false).setSession d none =
      (s.setPass (d.gate .road) false).setPass (d.gate .yard) false := setSession_vacant h
  unfold State.abortSession
  rw [h]
  exact congrArg (State.dropCalls · d) hvacant

/-- Every gate replaced in turn, 1R to 2Y, each by a function of itself, where an operation does so in every state of a
property that a replaced gate does not touch. -/
theorem eachGate_replace {f : State → GateId → State} {P : State → Prop} (r : Nat → Gate → Gate)
    (hP : ∀ s g x, P s → P (s.setGate g x)) (hf : ∀ s g, P s → f s g = s.setGate g (r s.now (s.gate g))) {s : State}
    (hs : P s) :
    s.eachGate f = { s with
      gates := ⟨r s.now s.gates.g1R, r s.now s.gates.g1Y, r s.now s.gates.g2R, r s.now s.gates.g2Y⟩ } := by
  have h1 (x : Gate) := hP s .g1R x hs
  have h2 (x y : Gate) := hP _ .g1Y y (h1 x)
  have h3 (x y z : Gate) := hP _ .g2R z (h2 x y)
  unfold State.eachGate
  rw [hf s .g1R hs, hf _ .g1Y (h1 _), hf _ .g2R (h2 _ _), hf _ .g2Y (h3 _ _ _)]
  rfl

/-- Neither deck has a session (R112). -/
def State.vacant (s : State) : Prop := ∀ d, (s.deck d).session = none

/-- The forced raise at every gate of a yard without sessions (R138). -/
theorem eachGate_forcedRaise {s : State} (hs : s.vacant) :
    (s.eachGate fun x g => x.gateEvent g fun k => k.forcedRaise x.now) = { s with
      gates := ⟨s.gates.g1R.raisedByForce s.now, s.gates.g1Y.raisedByForce s.now, s.gates.g2R.raisedByForce s.now,
        s.gates.g2Y.raisedByForce s.now⟩ } := by
  refine eachGate_replace (P := State.vacant) (fun now k => k.raisedByForce now) (fun _ _ _ h => h) (fun x g hx => ?_) hs
  rw [← forcedRaise_eq]
  exact gateEvent_vacant (hx _) forcedRaise_fault

/-- A gate without pass flag and waiting call (R139, R140). -/
def Gate.emptied (k : Gate) : Gate := { k with pass := false, waiting := none }

/-- A session ended where there is none, and the waiting calls dropped: both gates of the deck are emptied. -/
theorem abortSession_vacant_gates {s : State} {d : DeckId} (h : (s.deck d).session = none) :
    (s.abortSession d).dropCalls d = (s.setGate (d.gate .road) (s.gate (d.gate .road)).emptied).setGate (d.gate .yard)
      (s.gate (d.gate .yard)).emptied := by
  rw [abortSession_vacant h]
  cases d <;> rfl

/-- Both sessions ended where there is none: every gate is emptied (R139, R140). -/
theorem eachDeck_abortSession {s : State} (hs : s.vacant) :
    (s.eachDeck fun x d => (x.abortSession d).dropCalls d) = { s with
      gates := ⟨s.gates.g1R.emptied, s.gates.g1Y.emptied, s.gates.g2R.emptied, s.gates.g2Y.emptied⟩ } := by
  have h2 : ((s.setGate (DeckId.d1.gate .road) (s.gate (DeckId.d1.gate .road)).emptied).setGate (DeckId.d1.gate .yard)
      (s.gate (DeckId.d1.gate .yard)).emptied).vacant := hs
  unfold State.eachDeck
  dsimp only
  rw [abortSession_vacant_gates (hs .d1), abortSession_vacant_gates (h2 .d2)]
  rfl

/-- A gate after the setting of the latch in a yard without sessions (R105, R139, R140). -/
def Gate.latched (k : Gate) (now : Nat) : Gate := (k.raisedByForce now).emptied

/-- The setting of the latch in a yard without sessions that is not in quiet running: the latch, the four gates and the
notice (R138 to R140, R143). -/
theorem setLatch_vacant {s : State} (hs : s.vacant) (hq : s.service.quiet = false) :
    s.setLatch = State.raise { s with
      emergency := { s.emergency with latch := true }
      gates := ⟨s.gates.g1R.latched s.now, s.gates.g1Y.latched s.now, s.gates.g2R.latched s.now,
        s.gates.g2Y.latched s.now⟩ } .emergency .nothing := by
  have hlatch : State.vacant { s with emergency := { s.emergency with latch := true } } := hs
  have hforced : State.vacant { s with
      emergency := { s.emergency with latch := true }
      gates := ⟨s.gates.g1R.raisedByForce s.now, s.gates.g1Y.raisedByForce s.now, s.gates.g2R.raisedByForce s.now,
        s.gates.g2Y.raisedByForce s.now⟩ } := hs
  unfold State.setLatch State.wakeSource
  dsimp only
  rw [eachGate_forcedRaise hlatch, eachDeck_abortSession hforced, hq]
  rfl

end Sys2Proof.Machine
end

section
/-! PROOFS. Each block after a reset, and the three resets (R18, R24, R66, R90, R108, R152, R165, R173, R181, R182). -/

namespace Sys2Proof.Machine

/-! ### The blocks -/

/-- A deck after a reset: WARMING with a record present, else UNCALIBRATED (R18, R19, R24). -/
theorem deckReset_eq (k : Deck) (now : Nat) :
    k.reset now = { k with
      cells := ⟨now + 50000, 0, List.replicate 8 ⟨0, false⟩, none⟩
      unit := { reading := ⟨if k.cal.record = none then .uncalibrated else .warming, .noStatus, 0, 0, false, 0, 0, 0, 0⟩
                zd := if k.cal.record = none then 0 else k.cal.zSet, ref := 0, refPresent := false
                warmUp := if k.cal.record = none then none else some (now + 2000000) }
      session := none } := by
  unfold Deck.reset
  cases hr : k.cal.record with
  | none => simp only [if_true]; rfl
  | some r => simp only [reduceCtorEq, if_false]; rfl

/-- A gate after a reset, its sampled levels and its record values (R90), before the barrier is placed. -/
def Gate.sampled (k : Gate) (x : GatePins) : Gate :=
  { k with request := none, locked := true, pass := false, occupied := x.occupied, upSwitch := x.up
           downSwitch := x.down, memory := none, drops := 0, waiting := none }

/-- A gate after a reset: FAULT unless exactly one switch is ACTIVE; DOWN, or UP with a lower request of the reset
(R108). -/
theorem gateReset_eq (k : Gate) (now : Nat) (x : GatePins) :
    k.reset now x =
      if x.up = x.down then { k.sampled x with barrier := .fault }
      else if x.down = true then { k.sampled x with barrier := .down }
      else { k.sampled x with barrier := .up }.lowerRequest now .reset := by
  obtain ⟨occupied, up, down⟩ := x
  cases up <;> cases down
  · rfl
  · rfl
  · cases occupied <;> rfl
  · rfl

/-- A write that changes a slot's visit counts in its revision (R40). -/
theorem slotWrite_of_ne {sl : Slot} {v : Option Visit} (h : sl.visit ≠ v) : sl.write v = ⟨sl.revision + 1, v⟩ := by
  unfold Slot.write
  rw [if_neg h]

/-- A FREE slot stays as it is at a reset (R66). -/
theorem afterReset_free {sl : Slot} (h : sl.visit = none) : sl.afterReset = sl := by
  simp only [Slot.afterReset, h]

/-- A visit's slot after a reset (R66). -/
theorem afterReset_visit {sl : Slot} {v : Visit} (h : sl.visit = some v) :
    sl.afterReset = match v.state with
      | .arriving _ => ⟨sl.revision + 1, none⟩
      | .departing _ w => ⟨sl.revision + 1, some { v with state := .onSite w }⟩
      | .closed t => if t.mark = .printing then
          ⟨sl.revision + 1, some { v with state := .closed { t with mark := .unprinted } }⟩ else sl
      | _ => sl := by
  simp only [Slot.afterReset, h]
  cases hv : v.state with
  | arriving d => exact slotWrite_of_ne (by rw [h]; nofun)
  | departing d w =>
    refine slotWrite_of_ne ?_
    rw [h]
    intro he
    have hstate := congrArg Visit.state (Option.some.inj he)
    rw [hv] at hstate
    cases hstate
  | closed t =>
    dsimp only
    by_cases hm : t.mark = .printing
    · rw [if_pos hm, if_pos hm]
      refine slotWrite_of_ne ?_
      rw [h]
      intro he
      have hstate := congrArg Visit.state (Option.some.inj he)
      rw [hv] at hstate
      have hmark := congrArg Ticket.mark (VisitState.closed.inj hstate)
      rw [hm] at hmark
      cases hmark
    · rw [if_neg hm, if_neg hm]
  | onSite w => rfl
  | held a b net r => rfl

/-- A notice line after a reset (R167, R168, R173). -/
theorem noticesAtReset_eq (cause : ResetCause) (lost : Bool) :
    noticesAtReset cause lost = NoticeKind.all.map fun k => ⟨true, if k.order < 5 then .urgent else .routine,
      if k = .restarted then some (.reset cause) else if k = .retentionLost ∧ lost = true then some .nothing else none⟩ := by
  cases lost <;> rfl

/-- The ARRIVING visits of an account (R66, R75). -/
theorem arrivingOn_eq (s : State) (n : AccountNo) :
    s.arrivingOn n = s.register.slots.countP fun sl => sl.visit.any fun v =>
      v.account == some n && (match v.state with
        | .arriving _ => true
        | _ => false) := by
  unfold State.arrivingOn
  have hname (v : Visit) : (v.state.name == .arriving) = (match v.state with
        | .arriving _ => true
        | _ => false) := by
    cases v.state <;> rfl
  simp only [hname, Bool.and_comm]

/-- FREE slots at revision 0 stay so at a reset (R66). -/
theorem afterReset_initial (n : Nat) :
    (List.replicate n Slot.initial).map Slot.afterReset = List.replicate n ⟨0, none⟩ := by
  rw [List.map_replicate, afterReset_free rfl]
  rfl

/-! ### The resets -/

theorem exec_pinReset {s : State} (hp : s.powered = true) (pins : Pins) :
    exec (.pinReset pins) s = .next (s.performReset .pinReset false pins) := by
  change execPinReset pins s = _
  rw [execPinReset, event_powered _ s hp]

theorem exec_restart {s : State} (h : s.listening) (pins : Pins) :
    exec (.restart pins) s = .next (s.performReset .linkReset false pins) := by
  obtain ⟨hp, hlink, hncs⟩ := h
  change execRestart pins s = _
  rw [execRestart, selection_taken _ s hp hncs, hlink]

/-- Settles O51: the latch in a vacant yard; then each block after a reset, with retention held and with it lost. -/
theorem resetsTakeTheBlocksBack : Obligations.ResetsTakeTheBlocksBack := by
  refine ⟨fun s hs hq => setLatch_vacant hs hq, ?_⟩
  intro s pins deck gate slot arriving line blocks lost empty initial ends
  have hdeck (k : Deck) : k.reset s.now = deck k := deckReset_eq k s.now
  have hgate (k : Gate) (x : GatePins) : k.reset s.now x = gate k x := gateReset_eq k s.now x
  have hslot : Slot.afterReset = slot := by
    funext sl
    cases hv : sl.visit with
    | none =>
      simp only [slot, hv]
      exact afterReset_free hv
    | some v =>
      simp only [slot, hv]
      exact afterReset_visit hv
  have harriving (n : AccountNo) : s.arrivingOn n = arriving n := arrivingOn_eq s n
  have hline (cause : ResetCause) (b : Bool) : noticesAtReset cause b = NoticeKind.all.map (line cause b) :=
    noticesAtReset_eq cause b
  have hblocks (cause : ResetCause) : s.resetBlocks cause false pins = blocks cause := by
    simp only [State.resetBlocks, State.resetRegister, hdeck, hgate, hslot, harriving, hline]
    rfl
  have hinitial : s.loseRetained.resetBlocks .powerOn true pins = initial := by
    simp only [State.resetBlocks, State.resetRegister, State.loseRetained, Register.initial, afterReset_initial, hdeck, hgate,
      hline]
    rfl
  refine ⟨fun hp => ?_, fun h => ?_, ?_⟩
  · rw [exec_pinReset hp, State.performReset, hblocks]
  · rw [exec_restart h, State.performReset, hblocks]
  · change execPowerOn pins s = _
    unfold execPowerOn
    cases s.service.mark with
    | true =>
      simp only [if_true]
      rw [State.performReset, hblocks]
    | false =>
      simp only [Bool.false_eq_true, if_false]
      rw [State.performReset, hinitial]

end Sys2Proof.Machine
end

section
/-! PROOFS. An evaluation leaves the other deck alone: the session's part and the offer touch the session of their own
deck, the gates and the records (R118, R122 to R129). -/

namespace Sys2Proof.Machine

/-- Every deck but one is as it was, its session included. -/
def OtherDecksKept (d : DeckId) (s t : State) : Prop := ∀ e, e ≠ d → t.deck e = s.deck e

theorem OtherDecksKept.refl (d : DeckId) (s : State) : OtherDecksKept d s s := fun _ _ => rfl

theorem OtherDecksKept.trans {d : DeckId} {s t u : State} (h : OtherDecksKept d s t) (k : OtherDecksKept d t u) :
    OtherDecksKept d s u := fun e he => (k e he).trans (h e he)

theorem RecordsOnly.othersKept {s t : State} (h : RecordsOnly s t) (d : DeckId) : OtherDecksKept d s t :=
  fun e _ => deck_congr h.decks e

/-- A replaced deck. -/
theorem setDeck_othersKept (s : State) (d : DeckId) (k : Deck) : OtherDecksKept d s (s.setDeck d k) := by
  intro e he
  rw [deck_setDeck, if_neg he]

/-- A session replaced after a change of gates alone. -/
theorem OtherDecksKept.setSession {d : DeckId} {s t : State} (h : OtherDecksKept d s t) (x : Option Serving) :
    OtherDecksKept d s (t.setSession d x) :=
  h.trans (setDeck_othersKept t d _)

/-- A gate replaced: no deck is touched. -/
theorem setGate_othersKept (s : State) (d : DeckId) (g : GateId) (x : Gate) : OtherDecksKept d s (s.setGate g x) :=
  fun _ _ => rfl

/-! ### The arbiter and the offer (R115, R118) -/

theorem setUpSession_othersKept (s : State) (d : DeckId) (h : Heading) (n : Nat) :
    OtherDecksKept d s (s.setUpSession d h n) := by
  unfold State.setUpSession
  exact ((setGate_othersKept s d _ _).trans (setGate_othersKept _ d _ _)).setSession _

theorem takeCall_othersKept (s : State) (g : GateId) (f : CallForm) : OtherDecksKept g.deck s (s.takeCall g f).1 := by
  unfold State.takeCall
  split
  · split
    · exact .refl _ s
    · split
      · exact ((openIn_records _ _ _ _).othersKept _).trans (setUpSession_othersKept _ _ _ _)
      · exact .refl _ s
  · split
    · exact .refl _ s
    · exact ((depart_records _ _ _).othersKept _).trans (setUpSession_othersKept _ _ _ _)

theorem judgeCall_othersKept (s : State) (g : GateId) (f : CallForm) : OtherDecksKept g.deck s (s.judgeCall g f).1 := by
  unfold State.judgeCall
  split
  · exact .refl _ s
  · split
    · exact .refl _ s
    · split
      · exact .refl _ s
      · exact takeCall_othersKept _ _ _

theorem noteRefusal_othersKept (s : State) (d : DeckId) (g : GateId) (x : Decision) :
    OtherDecksKept d s (s.noteRefusal g x) := by
  unfold State.noteRefusal
  split
  · exact (raise_records _ _ _).othersKept d
  · exact .refl _ s

theorem offerOne_othersKept (s : State) (g : GateId) : OtherDecksKept g.deck s (s.offerOne g) := by
  unfold State.offerOne
  split
  · exact .refl _ s
  · dsimp only
    split
    · exact .refl _ s
    · exact ((judgeCall_othersKept _ _ _).trans (setGate_othersKept _ _ _ _)).trans (noteRefusal_othersKept _ _ _ _)

theorem offerAt_othersKept (s : State) (d : DeckId) (e : GateEnd) : OtherDecksKept d s (s.offerOne (d.gate e)) := by
  have h := offerOne_othersKept s (d.gate e)
  rwa [gate_deck] at h

/-- The offer of a deck's waiting calls leaves the other deck as it was (R118). -/
theorem offer_othersKept (s : State) (d : DeckId) : OtherDecksKept d s (s.offer d) := by
  unfold State.offer
  split
  · dsimp only
    split
    · exact (offerAt_othersKept _ _ _).trans (offerAt_othersKept _ _ _)
    · exact offerAt_othersKept _ _ _
  · exact .refl _ s

/-! ### The session's part (R122 to R129) -/

theorem enterReleased_othersKept (s : State) (d : DeckId) (v : Serving) : OtherDecksKept d s (s.enterReleased d v) :=
  ((setGate_othersKept _ _ _ _).trans (setGate_othersKept _ _ _ _)).setSession _

theorem enterClearing_othersKept (s : State) (d : DeckId) (v : Serving) : OtherDecksKept d s (s.enterClearing d v) :=
  ((setGate_othersKept _ _ _ _).trans (setGate_othersKept _ _ _ _)).setSession _

theorem enterOnDeck_othersKept (s : State) (d : DeckId) (v : Serving) : OtherDecksKept d s (s.enterOnDeck d v) :=
  ((setGate_othersKept _ _ _ _).trans (setGate_othersKept _ _ _ _)).setSession _

theorem vacate_othersKept (s : State) (d : DeckId) : OtherDecksKept d s (s.vacate d) :=
  ((setGate_othersKept _ _ _ _).trans (setGate_othersKept _ _ _ _)).setSession _

theorem captureTest_othersKept (s : State) (d : DeckId) : OtherDecksKept d s (s.captureTest d) := by
  unfold State.captureTest
  split
  · split
    · exact ((capture_records _ _ _ _).othersKept d).trans (enterReleased_othersKept _ _ _)
    · exact .refl _ s
  · exact .refl _ s

theorem clearingTest_othersKept (s : State) (d : DeckId) (v : Serving) : OtherDecksKept d s (s.clearingTest d v) := by
  unfold State.clearingTest
  dsimp only
  split
  · exact (vacate_othersKept _ _).trans (offer_othersKept _ _)
  · split
    · exact enterReleased_othersKept _ _ _
    · split
      · exact (vacate_othersKept _ _).trans (offer_othersKept _ _)
      · exact .refl _ s

/-- A session that takes an evaluation leaves the other deck as it was (R122 to R129). -/
theorem sessionEvaluation_othersKept (s : State) (d : DeckId) : OtherDecksKept d s (s.sessionEvaluation d) := by
  unfold State.sessionEvaluation
  dsimp only
  split
  · split
    · split
      · split
        · exact enterOnDeck_othersKept _ _ _
        · exact setDeck_othersKept _ _ _
      · exact .refl _ s
    · exact captureTest_othersKept _ _
    · split
      · split
        · exact enterReleased_othersKept _ _ _
        · exact enterClearing_othersKept _ _ _
      · exact .refl _ s
    · exact clearingTest_othersKept _ _ _
    · exact .refl _ s
  · exact .refl _ s

end Sys2Proof.Machine
end

section
/-! PROOFS. The end of a cycle: the weighing unit that an incomplete, an OVER or UNDER and a VALID cycle leave, with
stillness and tracking, and the state around it (R6 to R16, R20, R23, R118). -/

namespace Sys2Proof.Machine

/-! ### The status of a complete cycle (R10) -/

/-- A complete cycle is OVER: an enabled cell was out of range, or the net weight is above Max + 9e (R10). -/
def CalRecord.Over (r : CalRecord) (good : List Good) (net : Int) : Prop :=
  (∃ g ∈ good, r.cells.getLsbD g.cell = true ∧ g.overrange = true) ∨ net > (r.max + 9 * r.division) * 1000

/-- The net weight is below -20e (R10). -/
def CalRecord.Under (r : CalRecord) (net : Int) : Prop := net < -(20 * r.division * 1000)

theorem over_test_iff (r : CalRecord) (good : List Good) (net : Int) :
    (good.any (fun g => r.enabled g.cell && g.overrange) || decide (((r.max + 9 * r.division) * 1000 : Nat) < net)) = true ↔
      r.Over good net := by
  simp [CalRecord.Over, CalRecord.enabled]

theorem under_test_iff (r : CalRecord) (net : Int) : net < -((20 * r.division * 1000 : Nat) : Int) ↔ r.Under net := by
  simp [CalRecord.Under]

theorem status_over {r : CalRecord} {good : List Good} {net : Int} (h : r.Over good net) : r.status good net = .over := by
  rw [CalRecord.status, if_pos ((over_test_iff r good net).2 h)]

theorem status_under {r : CalRecord} {good : List Good} {net : Int} (ho : ¬ r.Over good net) (hu : r.Under net) :
    r.status good net = .under := by
  rw [CalRecord.status, if_neg (mt (over_test_iff r good net).1 ho), if_pos ((under_test_iff r net).2 hu)]

theorem status_valid {r : CalRecord} {good : List Good} {net : Int} (ho : ¬ r.Over good net) (hu : ¬ r.Under net) :
    r.status good net = .valid := by
  rw [CalRecord.status, if_neg (mt (over_test_iff r good net).1 ho), if_neg (mt (under_test_iff r net).1 hu)]

/-- A complete cycle is VALID between the bounds of OVER and UNDER (R10). -/
theorem status_valid_iff (r : CalRecord) (good : List Good) (net : Int) :
    r.status good net = .valid ↔ ¬ r.Over good net ∧ ¬ r.Under net := by
  by_cases ho : r.Over good net
  · simp [status_over ho, ho]
  · by_cases hu : r.Under net
    · simp [status_under ho hu, hu]
    · simp [status_valid ho hu, ho, hu]

/-! ### The weighing unit after a cycle (R7 to R16, R20) -/

/-- A unit's availability after a complete cycle, `failed` where an enabled cell is FAILED (R11, R19, R20). -/
def Weigher.availabilityAfter (u : Weigher) (failed : Bool) : Availability :=
  if u.reading.availability = .warming ∨ (u.reading.availability = .fault ∧ failed = false) then .ready
  else u.reading.availability

/-- A complete cycle changes nothing but the availability besides its weight (R20). -/
theorem restored_eq (u : Weigher) (failed : Bool) :
    u.restored failed = { u with reading := { u.reading with availability := u.availabilityAfter failed } } := by
  unfold Weigher.restored Weigher.availabilityAfter
  split <;> rfl

/-- The availability after a complete cycle is that of any unit that began it with the same one (R20). -/
theorem restored_of_availability {u w : Weigher} {failed : Bool} {a : Availability} (hu : u.availabilityAfter failed = a)
    (hw : w.reading.availability = u.reading.availability) :
    w.restored failed = { w with reading := { w.reading with availability := a } } := by
  rw [restored_eq, ← hu, Weigher.availabilityAfter, hw]
  rfl

/-- A unit with the record of a complete cycle (R9, R11). -/
def Weigher.recorded (u : Weigher) (raw : Int) (clock : Seconds) : Weigher :=
  { u with reading := { u.reading with lastComplete := clock, raw := raw } }

/-- A cycle out of the bounds holds the status with every count cleared, and raises nothing (R10, R12). -/
theorem takeComplete_held {u : Weigher} {r : CalRecord} {good : List Good}
    (h : r.status good (r.rawWeight good - u.zd) ≠ .valid) (empty : Bool) (clock : Seconds) :
    u.takeComplete r good empty clock =
      ((u.recorded (r.rawWeight good) clock).held (r.status good (r.rawWeight good - u.zd)), false) := by
  unfold Weigher.takeComplete
  dsimp only
  split
  · next hv => exact absurd hv h
  · rfl

/-- A VALID cycle takes the weight, then tracks (R11, R12, R15). -/
theorem takeComplete_valid {u : Weigher} {r : CalRecord} {good : List Good}
    (h : r.status good (r.rawWeight good - u.zd) = .valid) (empty : Bool) (clock : Seconds) :
    u.takeComplete r good empty clock =
      ((u.recorded (r.rawWeight good) clock).takeValid r (r.rawWeight good - u.zd)).track r empty := by
  unfold Weigher.takeComplete
  dsimp only
  rw [h]
  rfl

/-- Stillness: within half a motion band of the reference the count goes on, else it begins again from here (R12). -/
theorem stillness_eq (u : Weigher) (r : CalRecord) (net : Int) :
    u.stillness r net =
      (if u.refPresent = true ∧ (net - u.ref).natAbs ≤ r.motionBand * r.division * 500 then min 255 (u.reading.still + 1)
        else 0,
       if u.refPresent = true ∧ (net - u.ref).natAbs ≤ r.motionBand * r.division * 500 then u.ref else net) := by
  unfold Weigher.stillness CalRecord.band
  split <;> rfl

/-- A VALID cycle with the stillness it comes to (R11, R12). -/
theorem takeValid_of_stillness {u : Weigher} {r : CalRecord} {net w : Int} {n : Nat} (h : u.stillness r net = (n, w)) :
    u.takeValid r net = { u with
      ref := w, refPresent := true, reading := { u.reading with
        status := .valid, net := net, weight := r.reported net, current := true, still := n } } := by
  rw [Weigher.takeValid, h]

/-- What qualifies a VALID cycle for tracking (R15). -/
theorem qualifies_iff (u : Weigher) (r : CalRecord) (empty : Bool) :
    u.qualifies r empty = true ↔
      empty = true ∧ r.stableCount ≤ u.reading.still ∧ u.reading.net ≠ 0 ∧ u.reading.net.natAbs ≤ r.division * 500 := by
  simp [Weigher.qualifies, and_assoc]

/-- The tracking count of a unit replaced. -/
def Weigher.counted (u : Weigher) (n : Nat) : Weigher := { u with reading := { u.reading with track := n } }

theorem track_unqualified {u : Weigher} {r : CalRecord} {empty : Bool} (h : ¬ u.qualifies r empty = true) :
    u.track r empty = (u.counted 0, false) := by
  rw [Weigher.track, if_neg h]
  rfl

theorem track_counts {u : Weigher} {r : CalRecord} {empty : Bool} (h : u.qualifies r empty = true)
    (hn : u.reading.track < 19) : u.track r empty = (u.counted (u.reading.track + 1), false) := by
  rw [Weigher.track, if_pos h, if_pos (by omega)]
  rfl

/-- A change of the working zero moves a present reference with it (R14). -/
theorem setZero_shift {u : Weigher} (h : u.refPresent = true) (x : Int) :
    u.setZero (u.zd + x) =
      { u with zd := u.zd + x, ref := u.ref - x, reading := { u.reading with current := false } } := by
  rw [Weigher.setZero, if_pos h, add_sub_cancel_left]

/-- An adjustment within the zero range takes the net weight into the working zero and out of the reference (R14, R15). -/
theorem track_adjusts {u : Weigher} {r : CalRecord} {empty : Bool} (h : u.qualifies r empty = true)
    (hn : 19 ≤ u.reading.track) (hz : r.inZeroRange (u.zd + u.reading.net) = true) (hr : u.refPresent = true) :
    u.track r empty = ({ u with
      zd := u.zd + u.reading.net, ref := u.ref - u.reading.net
      reading := { u.reading with current := false, track := 0 } }, false) := by
  rw [Weigher.track, if_pos h, if_neg (by omega)]
  dsimp only
  rw [if_pos hz]
  exact congrArg (·, false) (setZero_shift (u := u.counted 0) hr u.reading.net)

theorem track_drifts {u : Weigher} {r : CalRecord} {empty : Bool} (h : u.qualifies r empty = true)
    (hn : 19 ≤ u.reading.track) (hz : ¬ r.inZeroRange (u.zd + u.reading.net) = true) :
    u.track r empty = (u.counted 0, true) := by
  rw [Weigher.track, if_pos h, if_neg (by omega)]
  dsimp only
  rw [if_neg hz]
  rfl

/-- ZERO_DRIFT is raised by an adjustment that falls outside the zero range (R16). -/
theorem track_raises_iff (u : Weigher) (r : CalRecord) (empty : Bool) :
    (u.track r empty).2 = true ↔
      u.qualifies r empty = true ∧ 19 ≤ u.reading.track ∧ ¬ r.inZeroRange (u.zd + u.reading.net) = true := by
  unfold Weigher.track
  split
  · next hq =>
    split
    · next hn => exact ⟨nofun, fun ⟨_, hle, _⟩ => by omega⟩
    · next hn =>
      split
      · next hz => simp [hz]
      · next hz => exact ⟨fun _ => ⟨hq, by omega, hz⟩, fun _ => rfl⟩
  · next hq => simp [hq]

/-! ### The state after the evaluation -/

/-- What an evaluation makes of the weighing unit, and whether ZERO_DRIFT is raised (R6 to R16). -/
def State.evaluation (s : State) (d : DeckId) (r : CalRecord) (warming : Bool) (good : List Good) : Weigher × Bool :=
  if r.complete good then
    let e := (s.deck d).unit.takeComplete r good ((s.deck d).session.isNone && !s.loopOccupied d) s.service.clock
    (e.1.restored ((s.deck d).anyFailed r), e.2)
  else ((s.deck d).unit.takeIncomplete warming, false)

theorem writeEvaluation_eq (s : State) (d : DeckId) (r : CalRecord) (warming : Bool) (good : List Good) :
    s.writeEvaluation d r warming good =
      if (s.evaluation d r warming good).2 = true then
        (s.setDeck d { s.deck d with unit := (s.evaluation d r warming good).1 }).raise .zeroDrift (.deck d)
      else s.setDeck d { s.deck d with unit := (s.evaluation d r warming good).1 } := by
  unfold State.writeEvaluation State.evaluation
  by_cases h : r.complete good = true
  · rw [if_pos h, if_pos h]
    rfl
  · rw [if_neg h, if_neg h]
    rfl

theorem writeEvaluation_deck (s : State) (d : DeckId) (r : CalRecord) (warming : Bool) (good : List Good) (e : DeckId) :
    (s.writeEvaluation d r warming good).deck e =
      if e = d then { s.deck d with unit := (s.evaluation d r warming good).1 } else s.deck e := by
  rw [writeEvaluation_eq]
  split <;> simp only [deck_raise, deck_setDeck]

/-- The events that may leave a calibrated deck able to take a call (R118). -/
theorem becameAble_iff {k : Deck} {r : CalRecord} (hr : k.cal.record = some r) (u : Weigher) :
    becameAble k { k with unit := u } = true ↔
      (k.unit.reading.availability ≠ .ready ∧ u.reading.availability = .ready) ∨
        (u.reading.status = .valid ∧ (r.threshold : Int) ≤ k.unit.reading.weight ∧ u.reading.weight < r.threshold) := by
  simp [becameAble, Deck.loaded, hr, and_assoc]

/-- The session's part and the offer touch no deck but its session, and the other deck not at all (R118, R122 to R129). -/
theorem evaluate_keeps {s : State} {d : DeckId} {r : CalRecord} (hr : (s.deck d).cal.record = some r) (warming : Bool)
    (good : List Good) :
    YardOnly (s.writeEvaluation d r warming good) (s.evaluate d warming good) ∧
      OtherDecksKept d (s.writeEvaluation d r warming good) (s.evaluate d warming good) := by
  rw [evaluate_eq hr]
  split
  · exact ⟨(sessionEvaluation_yard _ _).trans (offer_yard _ _),
      (sessionEvaluation_othersKept _ _).trans (offer_othersKept _ _)⟩
  · exact ⟨sessionEvaluation_yard _ _, sessionEvaluation_othersKept _ _⟩

/-- The end of a cycle writes its deck's unit and may change the session; it leaves the other deck, the link and the
clock (R6 to R16, R122 to R129). -/
theorem evaluate_frame {s : State} {d : DeckId} {r : CalRecord} (hr : (s.deck d).cal.record = some r) (warming : Bool)
    (good : List Good) :
    let t := s.evaluate d warming good
    (t.deck d).unit = (s.evaluation d r warming good).1 ∧ (t.deck d).cal = (s.deck d).cal ∧
      (t.deck d).times = (s.deck d).times ∧ (t.deck d).cells = (s.deck d).cells ∧ (∀ e, e ≠ d → t.deck e = s.deck e) ∧
      t.pending = s.pending ∧ t.powered = s.powered ∧ t.now = s.now ∧ t.link = s.link ∧ t.port = s.port ∧
      t.kinds = s.kinds ∧ t.emergency = s.emergency ∧ t.service = s.service := by
  intro t
  have hbase : (s.writeEvaluation d r warming good).pending = s.pending ∧
      (s.writeEvaluation d r warming good).powered = s.powered ∧ (s.writeEvaluation d r warming good).now = s.now ∧
      (s.writeEvaluation d r warming good).link = s.link ∧ (s.writeEvaluation d r warming good).port = s.port ∧
      (s.writeEvaluation d r warming good).kinds = s.kinds ∧
      (s.writeEvaluation d r warming good).emergency = s.emergency ∧
      (s.writeEvaluation d r warming good).service = s.service := by
    rw [writeEvaluation_eq]
    split <;> exact ⟨rfl, rfl, rfl, rfl, rfl, rfl, rfl, rfl⟩
  have hdeck : (s.writeEvaluation d r warming good).deck d =
      { s.deck d with unit := (s.evaluation d r warming good).1 } := by
    rw [writeEvaluation_deck, if_pos rfl]
  have hother (e : DeckId) (he : e ≠ d) : (s.writeEvaluation d r warming good).deck e = s.deck e := by
    rw [writeEvaluation_deck, if_neg he]
  obtain ⟨hpending, hpowered, hnow, hlink, hport, hkinds, hemergency, hservice⟩ := hbase
  obtain ⟨hyard, hothers⟩ := evaluate_keeps hr warming good
  exact ⟨(hyard.unit d).trans (by rw [hdeck]), (hyard.cal d).trans (by rw [hdeck]),
    (hyard.times d).trans (by rw [hdeck]), (hyard.cells d).trans (by rw [hdeck]),
    fun e he => (hothers e he).trans (hother e he), hyard.pending.trans hpending, hyard.powered.trans hpowered,
    hyard.now.trans hnow, hyard.link.trans hlink, hyard.port.trans hport, hyard.kinds.trans hkinds,
    hyard.emergency.trans hemergency, hyard.service.trans hservice⟩

end Sys2Proof.Machine
end

section
/-! PROOFS. The evaluation by the status of its cycle, and what it leaves of the state (R6 to R16, R20, R23, R118). -/

namespace Sys2Proof.Machine

/-! ### The evaluation by the status of the cycle (R7, R10) -/

section
variable {s : State} {d : DeckId} {r : CalRecord} {good : List Good} (warming : Bool)

theorem evaluation_incomplete (h : ¬ r.complete good = true) :
    s.evaluation d r warming good = ((s.deck d).unit.takeIncomplete warming, false) := by
  rw [State.evaluation, if_neg h]

theorem evaluation_held (h : r.complete good = true)
    (hs : r.status good (r.rawWeight good - (s.deck d).unit.zd) ≠ .valid) :
    s.evaluation d r warming good =
      ((((s.deck d).unit.recorded (r.rawWeight good) s.service.clock).held
        (r.status good (r.rawWeight good - (s.deck d).unit.zd))).restored ((s.deck d).anyFailed r), false) := by
  rw [State.evaluation, if_pos h, takeComplete_held hs]

/-- The unit of a deck as a VALID cycle leaves it to the tracking (R11, R12). -/
def State.weighed (s : State) (d : DeckId) (r : CalRecord) (good : List Good) : Weigher :=
  ((s.deck d).unit.recorded (r.rawWeight good) s.service.clock).takeValid r (r.rawWeight good - (s.deck d).unit.zd)

/-- The session is VACANT and both loops are CLEAR (R15). -/
def State.emptyDeck (s : State) (d : DeckId) : Bool := (s.deck d).session.isNone && !s.loopOccupied d

theorem emptyDeck_iff (s : State) (d : DeckId) :
    s.emptyDeck d = true ↔ (s.deck d).session = none ∧ (s.gate (d.gate .road)).occupied = false ∧
      (s.gate (d.gate .yard)).occupied = false := by
  simp [State.emptyDeck, State.loopOccupied]

theorem evaluation_valid (h : r.complete good = true)
    (hs : r.status good (r.rawWeight good - (s.deck d).unit.zd) = .valid) :
    s.evaluation d r warming good =
      (((s.weighed d r good).track r (s.emptyDeck d)).1.restored ((s.deck d).anyFailed r),
        ((s.weighed d r good).track r (s.emptyDeck d)).2) := by
  rw [State.evaluation, if_pos h, takeComplete_valid hs]
  rfl

/-- ZERO_DRIFT is raised by the tracking of a VALID cycle (R16). -/
theorem evaluation_raises_iff :
    (s.evaluation d r warming good).2 = true ↔ r.complete good = true ∧
      r.status good (r.rawWeight good - (s.deck d).unit.zd) = .valid ∧
      ((s.weighed d r good).track r (s.emptyDeck d)).2 = true := by
  by_cases hc : r.complete good = true
  · by_cases hs : r.status good (r.rawWeight good - (s.deck d).unit.zd) = .valid
    · simp [evaluation_valid warming hc hs, hc, hs]
    · simp [evaluation_held warming hc hs, hs]
  · simp [evaluation_incomplete warming hc, hc]

end

/-- Settles O13: the unit by the status of its cycle and by its tracking, then the events and the frame. -/
theorem evaluationWritesTheReading : Obligations.EvaluationWritesTheReading := by
  intro s d r warming good hr k u complete raw net isOver isUnder failed availability stays still ref qualifies fits valid
    isValid drifts
  have hcomplete : r.complete good = true ↔ complete := complete_iff r good
  have havail : u.availabilityAfter (k.anyFailed r) = availability := by
    have hfailed : k.anyFailed r = failed := by
      rw [Bool.eq_iff_iff, anyFailed_iff]
      simp [failed]
    rw [hfailed]
    rfl
  have hstill : (u.recorded raw s.service.clock).stillness r net = (still, ref) := stillness_eq _ r net
  have hweighed : s.weighed d r good = { valid with reading := { valid.reading with
      availability := u.reading.availability, track := u.reading.track } } := takeValid_of_stillness hstill
  have hqualifies : (s.weighed d r good).qualifies r (s.emptyDeck d) = true ↔ qualifies := by
    rw [qualifies_iff, emptyDeck_iff, hweighed]
    simp only [and_assoc]
    rfl
  have hfits : r.inZeroRange ((s.weighed d r good).zd + (s.weighed d r good).reading.net) = true ↔ fits := by
    rw [hweighed]
    exact decide_eq_true_iff
  have hvalid : isValid → s.evaluation d r warming good =
      (((s.weighed d r good).track r (s.emptyDeck d)).1.restored (k.anyFailed r),
        ((s.weighed d r good).track r (s.emptyDeck d)).2) :=
    fun ⟨hc, ho, hu⟩ => evaluation_valid warming (hcomplete.2 hc) (status_valid ho hu)
  have htrack : (s.weighed d r good).reading.track = u.reading.track := by rw [hweighed]
  have hplain : ((s.weighed d r good).counted 0).restored (k.anyFailed r) = valid := by
    rw [hweighed]
    exact restored_of_availability havail rfl
  have hincomplete (h : ¬ complete) : s.evaluation d r warming good = (u.takeIncomplete warming, false) :=
    evaluation_incomplete warming (mt hcomplete.1 h)
  have hheld (h : complete) (ho : isOver ∨ isUnder) : s.evaluation d r warming good =
      ({ u with refPresent := false, reading := { u.reading with
        availability := availability, status := if isOver then .over else .under, current := false, still := 0, track := 0
        lastComplete := s.service.clock, raw := raw } }, false) := by
    have hstatus : r.status good net = if isOver then .over else .under := by
      by_cases hover : isOver
      · rw [if_pos hover]
        exact status_over hover
      · rw [if_neg hover]
        exact status_under hover (ho.resolve_left hover)
    have hne : r.status good net ≠ .valid := by
      rw [hstatus]
      split <;> nofun
    rw [evaluation_held warming (hcomplete.2 h) hne, ← hstatus]
    exact congrArg (·, false) (restored_of_availability havail rfl)
  have hunqualified (h : isValid) (hq : ¬ qualifies) : s.evaluation d r warming good = (valid, false) := by
    rw [hvalid h, track_unqualified (mt hqualifies.1 hq), hplain]
  have hcounts (h : isValid) (hq : qualifies) (hn : u.reading.track < 19) : s.evaluation d r warming good =
      ({ valid with reading := { valid.reading with track := u.reading.track + 1 } }, false) := by
    rw [hvalid h, track_counts (hqualifies.2 hq) (by rwa [htrack]), htrack, hweighed]
    exact congrArg (·, false) (restored_of_availability havail rfl)
  have hadjusts (h : isValid) (hq : qualifies) (hn : 19 ≤ u.reading.track) (hf : fits) : s.evaluation d r warming good =
      ({ valid with zd := u.zd + net, ref := ref - net, reading := { valid.reading with current := false } }, false) := by
    rw [hvalid h, track_adjusts (hqualifies.2 hq) (by rwa [htrack]) (hfits.2 hf) (by rw [hweighed]), hweighed]
    exact congrArg (·, false) (restored_of_availability havail rfl)
  have hdrifts (h : drifts) : s.evaluation d r warming good = (valid, true) := by
    obtain ⟨hv, hq, hn, hf⟩ := h
    rw [hvalid hv, track_drifts (hqualifies.2 hq) (by rwa [htrack]) (mt hfits.1 hf), hplain]
  have hraised : (s.evaluation d r warming good).2 = true ↔ drifts := by
    have hstatus : r.status good (r.rawWeight good - (s.deck d).unit.zd) = .valid ↔ ¬ isOver ∧ ¬ isUnder :=
      status_valid_iff r good net
    rw [evaluation_raises_iff, track_raises_iff, hcomplete, hqualifies, hfits, htrack, hstatus]
    exact ⟨fun ⟨hc, ⟨ho, hu⟩, ht⟩ => ⟨⟨hc, ho, hu⟩, ht⟩, fun ⟨⟨hc, ho, hu⟩, ht⟩ => ⟨hc, ⟨ho, hu⟩, ht⟩⟩
  refine ⟨(s.evaluation d r warming good).1, fun hc hw => ?_, fun hc hw => ?_, fun hc ho => ?_, fun hv hq => ?_,
    fun hv hq hn => ?_, fun hv hq hn hf => ?_, fun hd => ?_, ?_⟩
  · rw [hincomplete hc, Weigher.takeIncomplete, if_pos hw]
  · rw [hincomplete hc, Weigher.takeIncomplete, hw]
    rfl
  · rw [hheld hc ho]
  · rw [hunqualified hv hq]
  · rw [hcounts hv hq hn]
  · rw [hadjusts hv hq hn hf]
  · rw [hdrifts hd]
  · intro s1 k1 able t
    have hs1 : s.writeEvaluation d r warming good = s1 := by
      rw [writeEvaluation_eq]
      exact if_congr hraised rfl rfl
    have hdeck : s1.deck d = { k with unit := (s.evaluation d r warming good).1 } := by
      rw [← hs1, writeEvaluation_deck, if_pos rfl]
    have hable : becameAble k (s1.deck d) = true ↔ able := by
      have h := becameAble_iff hr (s.evaluation d r warming good).1
      rwa [← hdeck] at h
    have ht : t = if becameAble k (s1.deck d) then (s1.sessionEvaluation d).offer d else s1.sessionEvaluation d := by
      change s.evaluate d warming good = _
      rw [evaluate_eq hr, hs1]
    refine ⟨congrArg Deck.unit hdeck, fun h => ?_, fun h => ?_, evaluate_frame hr warming good⟩
    · rw [ht, if_pos (hable.2 h)]
    · rw [ht, if_neg (mt hable.1 h)]

end Sys2Proof.Machine
end

section
/-! PROOFS. ZERO (R13, R14, R36 to R38): its checks in order on a calibrated deck, and the deck it leaves. -/

namespace Sys2Proof.Machine

/-- A zero lies outside the zero range where it is further than 40 × Max grams from Z_cal (R36). -/
theorem not_inZeroRange_iff (r : CalRecord) (z : Int) : r.inZeroRange z = false ↔ 40 * r.max < (z - r.zCal).natAbs := by
  simp [CalRecord.inZeroRange]

/-- The deck that an accepted ZERO leaves (R14, R38). -/
theorem zeroed_eq (k : Deck) :
    k.zeroed = { k with
      cal := { k.cal with zSet := k.unit.reading.raw }
      unit := { k.unit with
        zd := k.unit.reading.raw
        ref := if k.unit.refPresent = true then k.unit.ref - (k.unit.reading.raw - k.unit.zd) else k.unit.ref
        reading := { k.unit.reading with current := false, track := 0 } } } := rfl

/-- A ZERO on a deck without a calibration record is refused (R37). -/
theorem exec_zero_of_absent {s : State} (h : s.listening) {b : Byte} {d : DeckId} (hd : deckOf b = some d)
    (hr : (s.deck d).cal.record = none) : exec (.zero b) s = .next (s.answered Code.zero .deckUnavailable) := by
  change request Code.zero _ s = _
  exact request_bare h (by simp only [hd, hr])

/-- ZERO's checks on a calibrated deck in the order of R37. -/
theorem exec_zero_of_record {s : State} (h : s.listening) {b : Byte} {d : DeckId} {r : CalRecord}
    (hd : deckOf b = some d) (hr : (s.deck d).cal.record = some r) :
    exec (.zero b) s = .next (
      if (s.deck d).unit.reading.availability ≠ .ready then s.answered Code.zero .deckUnavailable
      else if (s.deck d).session ≠ none then s.answered Code.zero .wrongState
      else if (s.deck d).stable = false then s.answered Code.zero .wrongState
      else if r.inZeroRange (s.deck d).unit.reading.raw = false then s.answered Code.zero .outOfRange
      else (s.setDeck d (s.deck d).zeroed).answered Code.zero .done) := by
  change request Code.zero _ s = _
  rw [request_performed _ _ s h]
  simp only [hd, hr, Option.isSome_iff_ne_none, Bool.not_eq_true']
  split_ifs <;> rfl

/-- Settles O15: by the deck that the byte names and its record; then the stable flag and the zero range as their rules
give them, and the accepted ZERO as one replacement of the deck. -/
theorem zeroSetsTheZeros : Obligations.ZeroSetsTheZeros := by
  intro s b h
  cases hd : deckOf b with
  | none =>
    change request Code.zero _ s = _
    exact request_bare h (by simp only [hd])
  | some d =>
    cases hr : (s.deck d).cal.record with
    | none => simp only [exec_zero_of_absent h hd hr, hr]
    | some r =>
      simp only [exec_zero_of_record h hd hr, hr, stable_of_record hr, decide_eq_false_iff_not, not_inZeroRange_iff,
        zeroed_eq]

end Sys2Proof.Machine
end

section
/-! PROOFS. The Visit Register as a list of slots: what a slot holds, the search for a slot, the write of a slot as the
replacement of a list entry, and the on-site counts as a map over the accounts (R40, R44, R75). -/

namespace Sys2Proof.Machine

/-! ### What a slot holds -/

/-- A slot holds a visit exactly where the list of slots has it. -/
theorem visit_eq_some_iff {s : State} {n : Nat} {v : Visit} :
    s.visit n = some v ↔ ∃ sl, s.register.slots[n]? = some sl ∧ sl.visit = some v := by
  unfold State.visit State.slot
  rw [List.getD_eq_getElem?_getD]
  cases s.register.slots[n]? with
  | none => simp [Slot.initial]
  | some sl => simp

theorem lt_of_visit {s : State} {n : Nat} {v : Visit} (h : s.visit n = some v) : n < s.register.slots.length := by
  obtain ⟨sl, hsl, -⟩ := visit_eq_some_iff.1 h
  exact (List.getElem?_eq_some_iff.1 hsl).1

/-- A visit reads the same where the slots are the same. -/
theorem visit_congr {s t : State} (h : t.register.slots = s.register.slots) (n : Nat) : t.visit n = s.visit n := by
  simp only [State.visit, State.slot, h]

/-- The slot of a search holds a visit with the property. -/
theorem visit_of_findSlot {s : State} {p : Visit → Bool} {n : Nat} (h : s.findSlot p = some n) :
    ∃ v, s.visit n = some v ∧ p v = true := by
  obtain ⟨hn, hp, -⟩ := List.findIdx?_eq_some_iff_getElem.1 h
  obtain ⟨v, hv, hpv⟩ := Option.any_eq_true _ _ |>.1 hp
  exact ⟨v, visit_eq_some_iff.2 ⟨_, List.getElem?_eq_getElem hn, hv⟩, hpv⟩

/-- A search finds no slot exactly where no visit has the property. -/
theorem findSlot_eq_none_iff {s : State} {p : Visit → Bool} :
    s.findSlot p = none ↔ ∀ n v, s.visit n = some v → p v = false := by
  simp only [State.findSlot, List.findIdx?_eq_none_iff]
  constructor
  · intro h n v hv
    obtain ⟨sl, hsl, hslv⟩ := visit_eq_some_iff.1 hv
    simpa [hslv] using h sl (List.mem_of_getElem? hsl)
  · intro h sl hsl
    obtain ⟨n, hn⟩ := List.getElem?_of_mem hsl
    cases hv : sl.visit with
    | none => rfl
    | some v => exact h n v (visit_eq_some_iff.2 ⟨sl, hn, hv⟩)

theorem findSlot_isSome_iff {s : State} {p : Visit → Bool} :
    (s.findSlot p).isSome = true ↔ ∃ n v, s.visit n = some v ∧ p v = true := by
  rw [Option.isSome_iff_ne_none, Ne, findSlot_eq_none_iff]
  simp only [not_forall, Bool.not_eq_false, exists_prop]

/-! ### The write of a slot (R40) -/

/-- What a slot holds after a write was written to it, or was there before. -/
theorem visit_writeSlot_cases {s : State} {n m : Nat} {x : Option Visit} {v : Visit}
    (h : (s.writeSlot n x).visit m = some v) : (m = n ∧ x = some v) ∨ (m ≠ n ∧ s.visit m = some v) := by
  rw [visit_writeSlot _ _ _ _ (by simpa using lt_of_visit h)] at h
  split at h
  · next hmn => exact .inl ⟨hmn.symm, h⟩
  · next hmn => exact .inr ⟨Ne.symm hmn, h⟩

/-- The write of a slot replaces an entry of the list of slots. -/
theorem writeSlot_eq_set (s : State) (n : Nat) (x : Option Visit) :
    s.writeSlot n x =
      { s with register := { s.register with slots := s.register.slots.set n ((s.slot n).write x) } } := by
  have hslots : s.register.slots.modify n (fun sl => sl.write x) =
      s.register.slots.set n ((s.slot n).write x) := by
    refine List.ext_getElem? fun m => ?_
    rw [List.getElem?_modify, List.getElem?_set, State.slot, List.getD_eq_getElem?_getD]
    by_cases hm : n = m
    · subst hm
      cases hsl : s.register.slots[n]? with
      | none => simp [List.getElem?_eq_none_iff.1 hsl]
      | some sl => simp [(List.getElem?_eq_some_iff.1 hsl).1]
    · simp [hm]
  rw [State.writeSlot, hslots]

/-- The write of a slot that holds something else: the revision increments (R40). -/
theorem writeSlot_of_ne {s : State} {n : Nat} {x : Option Visit} (h : s.visit n ≠ x) :
    s.writeSlot n x = { s with
      register := { s.register with slots := s.register.slots.set n ⟨(s.slot n).revision + 1, x⟩ } } := by
  rw [writeSlot_eq_set, slotWrite_of_ne h]

/-- The write of what a slot already holds changes nothing (R40). -/
theorem writeSlot_self {s : State} {n : Nat} {x : Option Visit} (h : s.visit n = x) : s.writeSlot n x = s := by
  have hslot : (s.slot n).write x = s.slot n := if_pos h
  rw [writeSlot_eq_set, hslot]
  unfold State.slot
  rw [List.getD_eq_getElem?_getD]
  by_cases hn : n < s.register.slots.length
  · simp [List.getElem?_eq_getElem hn]
  · rw [List.set_eq_of_length_le (by omega)]

/-- The revision of a slot after a write (R40). -/
theorem revision_writeSlot {s : State} {n : Nat} (hn : n < s.register.slots.length) (x : Option Visit) :
    ((s.writeSlot n x).slot n).revision = if s.visit n = x then (s.slot n).revision else (s.slot n).revision + 1 := by
  rw [slot_writeSlot _ _ _ _ hn, if_pos rfl]
  unfold Slot.write
  exact apply_ite Slot.revision _ _ _

/-- A write leaves the other slots. -/
theorem slot_writeSlot_of_ne {s : State} {n m : Nat} (h : m ≠ n) (x : Option Visit) :
    (s.writeSlot n x).slot m = s.slot m := by
  simp [State.slot, State.writeSlot, List.getD_eq_getElem?_getD, Ne.symm h]

/-! ### The on-site counts (R75) -/

/-- An account changed with others left, as a map over the accounts. -/
theorem changeAccount_eq (s : State) (n : AccountNo) (f : Account → Account) :
    s.changeAccount n f = { s with accounts := s.accounts.map fun a => if some n = some a.number then f a else a } := by
  simp only [State.changeAccount, Option.some.injEq, eq_comm]

theorem countDown_eq (s : State) (n : Option AccountNo) : s.countDown n = { s with
    accounts := s.accounts.map fun a => if n = some a.number then { a with count := a.count - 1 } else a } := by
  cases n with
  | none => simp [State.countDown]
  | some n => exact changeAccount_eq _ _ _

theorem countUp_eq (s : State) (n : Option AccountNo) : s.countUp n = { s with
    accounts := s.accounts.map fun a => if n = some a.number then { a with count := a.count + 1 } else a } := by
  cases n with
  | none => simp [State.countUp]
  | some n => exact changeAccount_eq _ _ _

/-- Settles O16: the write reads back, counts a change once, and leaves the other slots. -/
theorem revisionCountsChanges : Obligations.RevisionCountsChanges := by
  intro s n v hn
  refine ⟨?_, revision_writeSlot hn v, fun m hm => slot_writeSlot_of_ne hm v, writeSlot_length _ _ _, rfl, rfl⟩
  rw [visit_writeSlot _ _ _ _ hn, if_pos rfl]

end Sys2Proof.Machine
end

section
/-! PROOFS. Descent: a state whose visits each continue a visit of another, with the fixed table sizes and the key orders
kept. Every operation but an open, an AMEND and a close makes such a state (R40, R44, R49, R61, R67, R74). -/

namespace Sys2Proof.Machine

/-- A visit continues another: the same vehicle, open only where the other is, and CLOSED only with the other's ticket
number and a ticket that has not newly become one to retire. -/
structure Visit.Follows (v u : Visit) : Prop where
  tag : v.tag = u.tag
  plate : v.plate = u.plate
  opened : v.isOpen = true → u.isOpen = true
  ticket : ∀ t, v.ticket = some t → ∃ t', u.ticket = some t' ∧ t.number = t'.number ∧
    (t.collected = true ∧ t.settled = true → t'.collected = true ∧ t'.settled = true)

theorem Visit.Follows.refl (v : Visit) : v.Follows v := ⟨rfl, rfl, id, fun t ht => ⟨t, ht, rfl, id⟩⟩

theorem Visit.Follows.trans {v u w : Visit} (h : v.Follows u) (k : u.Follows w) : v.Follows w := by
  refine ⟨h.tag.trans k.tag, h.plate.trans k.plate, k.opened ∘ h.opened, fun t ht => ?_⟩
  obtain ⟨t', ht', hnumber, hretired⟩ := h.ticket t ht
  obtain ⟨t'', ht'', hnumber', hretired'⟩ := k.ticket t' ht'
  exact ⟨t'', ht'', hnumber.trans hnumber', hretired' ∘ hretired⟩

/-- A visit of another state, neither newly open nor CLOSED, continues the one before it. -/
theorem follows_of_state {v u : Visit} (ht : v.tag = u.tag) (hp : v.plate = u.plate)
    (ho : v.isOpen = true → u.isOpen = true) (hc : v.ticket = none) : v.Follows u :=
  ⟨ht, hp, ho, fun t h => by rw [hc] at h; cases h⟩

/-- A CLOSED visit continues itself under a change of its ticket that keeps the number and does not retire it. -/
theorem withTicket_follows {v : Visit} {t t' : Ticket} (hv : v.state = .closed t) (hn : t'.number = t.number)
    (hr : ¬ (t'.collected = true ∧ t'.settled = true)) : (v.withTicket t').Follows v := by
  refine ⟨rfl, rfl, fun ho => by simp [Visit.withTicket, Visit.isOpen] at ho, fun x hx => ?_⟩
  obtain rfl : t' = x := by simpa [Visit.withTicket, Visit.ticket] using hx
  exact ⟨t, by simp [Visit.ticket, hv], hn, fun h => (hr h).elim⟩

/-- What a change of a ticket leaves in its slot continues the CLOSED visit (R61). -/
theorem afterTicket_follows {v w : Visit} {t t' : Ticket} (hv : v.state = .closed t) (hn : t'.number = t.number)
    (hw : v.afterTicket t' = some w) : w.Follows v := by
  unfold Visit.afterTicket at hw
  split at hw
  · cases hw
  · next hr =>
    obtain rfl := Option.some.inj hw
    exact withTicket_follows hv hn (by simpa using hr)

/-- What a reset leaves of a slot continues what the slot held (R66). -/
theorem afterReset_follows {sl : Slot} {v : Visit} (h : sl.afterReset.visit = some v) :
    ∃ u, sl.visit = some u ∧ v.Follows u := by
  unfold Slot.afterReset at h
  split at h
  · next hfree => rw [hfree] at h; cases h
  · next u hu =>
    refine ⟨u, hu, ?_⟩
    split at h
    · rw [write_visit] at h; cases h
    · next hst =>
      rw [write_visit] at h
      obtain rfl := Option.some.inj h
      exact follows_of_state rfl rfl (fun _ => by simp [Visit.isOpen, hst]) rfl
    · next t ht =>
      split at h
      · rw [write_visit] at h
        obtain rfl := Option.some.inj h
        exact withTicket_follows ht rfl (by simp [Ticket.settled])
      · rw [hu] at h
        obtain rfl := Option.some.inj h
        exact .refl _
    · rw [hu] at h
      obtain rfl := Option.some.inj h
      exact .refl _

/-- Every visit of `t` continues the visit of its slot in `s`, and the sizes and key orders of the tables of `s` hold in
`t`. -/
structure Descends (s t : State) : Prop where
  sizes : Sizes s → Sizes t
  vehicles : VehiclesOrdered s → VehiclesOrdered t
  accounts : AccountsOrdered s → AccountsOrdered t
  visit : ∀ n v, t.visit n = some v → ∃ u, s.visit n = some u ∧ v.Follows u

theorem Descends.refl (s : State) : Descends s s := ⟨id, id, id, fun _ v h => ⟨v, h, .refl v⟩⟩

theorem Descends.trans {s t u : State} (h : Descends s t) (k : Descends t u) : Descends s u := by
  refine ⟨k.sizes ∘ h.sizes, k.vehicles ∘ h.vehicles, k.accounts ∘ h.accounts, fun n v hv => ?_⟩
  obtain ⟨w, hw, hvw⟩ := k.visit n v hv
  obtain ⟨x, hx, hwx⟩ := h.visit n w hw
  exact ⟨x, hx, hvw.trans hwx⟩

/-- A state with the slots and tables of another descends from it. -/
theorem descends_of_tables {s t : State} (hr : t.register.slots = s.register.slots) (hv : t.vehicles = s.vehicles)
    (ha : t.accounts = s.accounts) (hk : t.kinds = s.kinds) (hn : t.notices.length = s.notices.length) :
    Descends s t where
  sizes h := by simpa only [Sizes, hr, hk, hn] using h
  vehicles h := by simpa only [VehiclesOrdered, hv] using h
  accounts h := by simpa only [AccountsOrdered, ha] using h
  visit n v h := ⟨v, by rwa [visit_congr hr] at h, .refl v⟩

/-! ### Notices, keyed tables and slots -/

theorem raise_descends (s : State) (k : NoticeKind) (x : Detail) : Descends s (s.raise k x) :=
  descends_of_tables rfl rfl rfl rfl (raise_length _ _ _)

theorem putVehicle_descends (s : State) (e : Vehicle) : Descends s (s.putVehicle e) :=
  ⟨id, insertBy_sorted _ e _, id, fun _ v h => ⟨v, h, .refl v⟩⟩

theorem putAccount_descends (s : State) (a : Account) : Descends s (s.putAccount a) :=
  ⟨id, id, insertBy_sorted _ a _, fun _ v h => ⟨v, h, .refl v⟩⟩

theorem filterVehicles_descends (s : State) (p : Vehicle → Bool) : Descends s { s with vehicles := s.vehicles.filter p } :=
  ⟨id, List.Pairwise.filter p, id, fun _ v h => ⟨v, h, .refl v⟩⟩

theorem filterAccounts_descends (s : State) (p : Account → Bool) : Descends s { s with accounts := s.accounts.filter p } :=
  ⟨id, id, List.Pairwise.filter p, fun _ v h => ⟨v, h, .refl v⟩⟩

/-- Accounts changed but for their numbers keep their order. -/
theorem mapAccounts_descends (s : State) (f : Account → Account) (hf : ∀ a, (f a).number = a.number) :
    Descends s { s with accounts := s.accounts.map f } := by
  refine ⟨id, id, fun h => ?_, fun _ v h => ⟨v, h, .refl v⟩⟩
  refine List.pairwise_map.2 (h.imp fun {a b} hab => ?_)
  rwa [hf, hf]

theorem changeAccount_descends (s : State) (n : AccountNo) (f : Account → Account) (hf : ∀ a, (f a).number = a.number) :
    Descends s (s.changeAccount n f) :=
  mapAccounts_descends s _ fun a => by split <;> simp [hf]

theorem countUp_descends (s : State) (n : Option AccountNo) : Descends s (s.countUp n) := by
  rw [countUp_eq]
  exact mapAccounts_descends s _ fun a => by split <;> rfl

theorem countDown_descends (s : State) (n : Option AccountNo) : Descends s (s.countDown n) := by
  rw [countDown_eq]
  exact mapAccounts_descends s _ fun a => by split <;> rfl

theorem moveAccount_descends (s : State) (a b : Option AccountNo) : Descends s (s.moveAccount a b) := by
  unfold State.moveAccount
  split
  · exact .refl s
  · exact (countDown_descends _ _).trans (countUp_descends _ _)

theorem settle_number (a : Account) : a.settle.number = a.number := by
  unfold Account.settle
  split
  · split <;> rfl
  · split <;> rfl
  · rfl

theorem debit_number (a : Account) (amount : Nat) : (a.debit amount).number = a.number := by
  unfold Account.debit
  dsimp only
  split
  · exact settle_number _
  · rfl

theorem debit_descends (s : State) (n : AccountNo) (amount : Nat) : Descends s (s.debit n amount) := by
  have hchange := changeAccount_descends s n (fun a => a.debit amount) fun a => debit_number a amount
  unfold State.debit
  split
  · exact .refl s
  · dsimp only
    split
    · exact hchange.trans (raise_descends _ _ _)
    · exact hchange

theorem debitVisit_descends (s : State) (v : Visit) (amount : Nat) : Descends s (s.debitVisit v amount) := by
  unfold State.debitVisit
  split
  · exact debit_descends _ _ _
  · exact .refl s

/-- The write of a slot with a continuation of its visit, or with none. -/
theorem writeSlot_descends {s : State} {n : Nat} {x : Option Visit}
    (hx : ∀ v, x = some v → ∃ u, s.visit n = some u ∧ v.Follows u) : Descends s (s.writeSlot n x) where
  sizes h := ⟨(writeSlot_length _ _ _).trans h.1, h.2⟩
  vehicles := id
  accounts := id
  visit m v h := by
    rcases visit_writeSlot_cases h with ⟨rfl, hv⟩ | ⟨-, hv⟩
    · exact hx v hv
    · exact ⟨v, hv, .refl v⟩

theorem freeSlot_descends (s : State) (n : Nat) : Descends s (s.writeSlot n none) :=
  writeSlot_descends fun _ h => by cases h

theorem followSlot_descends {s : State} {n : Nat} {u v : Visit} (hu : s.visit n = some u) (hv : v.Follows u) :
    Descends s (s.writeSlot n (some v)) :=
  writeSlot_descends fun _ h => ⟨u, hu, Option.some.inj h ▸ hv⟩

theorem afterTicket_descends {s : State} {n : Nat} {v : Visit} {t t' : Ticket} (hu : s.visit n = some v)
    (hv : v.state = .closed t) (hn : t'.number = t.number) : Descends s (s.writeSlot n (v.afterTicket t')) :=
  writeSlot_descends fun _ h => ⟨v, hu, afterTicket_follows hv hn h⟩

/-! ### The work of the register (R46, R63, R66) -/

theorem enterOnSite_descends {s : State} {n : Nat} {u v : Visit} (hu : s.visit n = some u) (hv : v.Follows u)
    (hs : ∃ w, v.state = .onSite w) : Descends s (s.enterOnSite n v) := by
  obtain ⟨w, hw⟩ := hs
  have hlate : Visit.Follows { v with overStay := true } v :=
    follows_of_state rfl rfl id (by simp [Visit.ticket, hw])
  unfold State.enterOnSite
  split
  · exact (followSlot_descends hu (hlate.trans hv)).trans (raise_descends _ _ _)
  · exact followSlot_descends hu hv

/-- A visit that over-stays is ON_SITE (R63). -/
theorem onSite_of_overdue {s : State} {v : Visit} (h : s.overdue v = true) : ∃ w, v.state = .onSite w := by
  unfold State.overdue Visit.overdue at h
  split at h
  · next w hw => exact ⟨w, hw⟩
  · cases h

theorem checkStay_descends (s : State) (n : Nat) : Descends s (s.checkStay n) := by
  unfold State.checkStay
  split
  · next v hv =>
    split
    · next hlate =>
      obtain ⟨w, hw⟩ := onSite_of_overdue hlate
      refine (followSlot_descends hv ?_).trans (raise_descends _ _ _)
      exact follows_of_state rfl rfl id (by simp [Visit.ticket, hw])
    · exact .refl s
  · exact .refl s

theorem checkStays_descends (s : State) : Descends s s.checkStays := by
  unfold State.checkStays
  generalize List.range 128 = l
  induction l generalizing s with
  | nil => exact .refl s
  | cons n l ih => exact (checkStay_descends s n).trans (ih _)

theorem depart_descends (s : State) (n : Nat) (d : DeckId) : Descends s (s.depart n d) := by
  unfold State.depart
  split
  · next v hv =>
    split
    · next w hw => exact followSlot_descends hv (follows_of_state rfl rfl (fun _ => by simp [Visit.isOpen, hw]) rfl)
    · exact .refl s
  · exact .refl s

theorem undo_descends (s : State) (n : Nat) : Descends s (s.undo n) := by
  unfold State.undo
  split
  · next v hv =>
    split
    · exact (freeSlot_descends _ _).trans (countDown_descends _ _)
    · next d w hw =>
      exact enterOnSite_descends hv (follows_of_state rfl rfl (fun _ => by simp [Visit.isOpen, hw]) rfl) ⟨w, rfl⟩
    · exact .refl s
  · exact .refl s

/-- A visit that becomes HELD continues the visit before it (R48). -/
theorem hold_descends {s : State} {n : Nat} {u v : Visit} (hu : s.visit n = some u) (ht : v.tag = u.tag)
    (hp : v.plate = u.plate) (a b : Weighing) (net : Int) (r : HeldReason) : Descends s (s.hold n v a b net r) := by
  have hfollows : Visit.Follows { v with state := .held a b net r } u := follows_of_state ht hp (fun h => by cases h) rfl
  exact ((followSlot_descends hu hfollows).trans (countDown_descends _ _)).trans (raise_descends _ _ _)

/-- The slots mapped one by one, each onto a continuation of its visit. -/
theorem mapSlots_visit {s t : State} {f : Slot → Slot} (ht : t.register.slots = s.register.slots.map f)
    (hf : ∀ sl v, (f sl).visit = some v → ∃ u, sl.visit = some u ∧ v.Follows u) (n : Nat) (v : Visit)
    (h : t.visit n = some v) : ∃ u, s.visit n = some u ∧ v.Follows u := by
  obtain ⟨sl, hsl, hv⟩ := visit_eq_some_iff.1 h
  rw [ht, List.getElem?_map, Option.map_eq_some_iff] at hsl
  obtain ⟨sl', hsl', rfl⟩ := hsl
  obtain ⟨u, hu, hvu⟩ := hf sl' v hv
  exact ⟨u, visit_eq_some_iff.2 ⟨sl', hsl', hu⟩, hvu⟩

theorem resetRegister_descends (s : State) : Descends s s.resetRegister where
  sizes h := by simpa [Sizes, State.resetRegister] using h
  vehicles := id
  accounts := (mapAccounts_descends s (fun a => { a with count := a.count - s.arrivingOn a.number }) fun _ => rfl).accounts
  visit := mapSlots_visit rfl fun _ _ => afterReset_follows

/-! ### The Print Controller (R154 to R158) -/

theorem setPrinting_descends (s : State) (c : Printing) : Descends s (s.setPrinting c) :=
  descends_of_tables rfl rfl rfl rfl rfl

theorem setPrinter_descends (s : State) (p : PrinterId) (x : Printer) : Descends s (s.setPrinter p x) :=
  setPrinting_descends _ _

theorem setJob_descends (s : State) (j : Option Job) : Descends s (s.setJob j) := setPrinting_descends _ _

theorem writePrinting_descends (s : State) (n : Nat) (m : PrintMark) : Descends s (s.writePrinting n m) := by
  unfold State.writePrinting
  split
  · next v hv =>
    split
    · next t ht =>
      split
      · exact afterTicket_descends hv ht rfl
      · exact .refl s
    · exact .refl s
  · exact .refl s

theorem startJob_descends {s : State} {n : Nat} {v : Visit} {t : Ticket} (hv : s.visit n = some v)
    (ht : v.state = .closed t) (p : PrinterId) : Descends s (s.startJob p n v t) :=
  (followSlot_descends hv (withTicket_follows (t' := t.started) ht rfl (by simp [Ticket.started, Ticket.settled]))).trans
    (setPrinting_descends _ _)

theorem failJob_descends (s : State) (j : Job) (c : FaultCause) : Descends s (s.failJob j c) :=
  (((writePrinting_descends _ _ _).trans (setPrinter_descends _ _ _)).trans (raise_descends _ _ _)).trans
    (setJob_descends _ _)

theorem endJob_descends (s : State) (j : Job) : Descends s (s.endJob j) :=
  ((writePrinting_descends _ _ _).trans (setPrinter_descends _ _ _)).trans (setJob_descends _ _)

theorem arbitrate_descends (fuel : Nat) (s : State) : Descends s (s.arbitrate fuel) := by
  induction fuel generalizing s with
  | zero => exact .refl s
  | succ fuel ih =>
    unfold State.arbitrate
    split
    · next p _ _ =>
      split
      · split
        · next v hv =>
          split
          · next t ht =>
            have hstart := startJob_descends hv ht p
            dsimp only
            split
            · split
              · exact (hstart.trans (failJob_descends _ _ _)).trans (ih _)
              · exact hstart
            · exact hstart
          · exact .refl s
        · exact .refl s
      · exact .refl s
    · exact .refl s

/-- The arbiter's choice continues every visit (R154). -/
theorem serveBus_descends (s : State) : Descends s s.serveBus := arbitrate_descends 3 s

theorem faultJob_descends (s : State) (j : Job) (c : FaultCause) : Descends s (s.faultJob j c) :=
  (failJob_descends _ _ _).trans (serveBus_descends _)

theorem finishJob_descends (s : State) (j : Job) : Descends s (s.finishJob j) :=
  (endJob_descends _ _).trans (serveBus_descends _)

theorem byteEnd_descends (s : State) (j : Job) : Descends s (s.byteEnd j) := by
  unfold State.byteEnd
  dsimp only
  split
  · exact setJob_descends _ _
  · split
    · exact (setJob_descends _ _).trans (faultJob_descends _ _ _)
    · exact setJob_descends _ _

theorem strobeEnd_descends (s : State) (j : Job) : Descends s (s.strobeEnd j) := by
  unfold State.strobeEnd
  split
  · exact byteEnd_descends _ _
  · exact setJob_descends _ _

theorem autoTare_descends (s : State) (v : Visit) (t : Ticket) : Descends s (s.autoTare v t) := by
  unfold State.autoTare
  split
  · split
    · exact putVehicle_descends _ _
    · exact .refl s
  · exact .refl s

/-! ### Gates, decks and the Service Unit -/

theorem reach_descends (s : State) (n : Nat) : Descends s (s.reach n) := descends_of_tables rfl rfl rfl rfl rfl

theorem setCursor_descends (s : State) (c : Cursor) : Descends s (s.setCursor c) :=
  descends_of_tables rfl rfl rfl rfl rfl

theorem setService_descends (s : State) (v : Service) : Descends s (s.setService v) :=
  descends_of_tables rfl rfl rfl rfl rfl

theorem setDeck_descends (s : State) (d : DeckId) (k : Deck) : Descends s (s.setDeck d k) :=
  descends_of_tables rfl rfl rfl rfl rfl

theorem setGate_descends (s : State) (g : GateId) (x : Gate) : Descends s (s.setGate g x) :=
  descends_of_tables rfl rfl rfl rfl rfl

theorem setUpSession_descends (s : State) (d : DeckId) (h : Heading) (n : Nat) : Descends s (s.setUpSession d h n) :=
  descends_of_tables rfl rfl rfl rfl rfl

theorem enterReleased_descends (s : State) (d : DeckId) (v : Serving) : Descends s (s.enterReleased d v) :=
  descends_of_tables rfl rfl rfl rfl rfl

theorem enterClearing_descends (s : State) (d : DeckId) (v : Serving) : Descends s (s.enterClearing d v) :=
  descends_of_tables rfl rfl rfl rfl rfl

theorem enterOnDeck_descends (s : State) (d : DeckId) (v : Serving) : Descends s (s.enterOnDeck d v) :=
  descends_of_tables rfl rfl rfl rfl rfl

theorem vacate_descends (s : State) (d : DeckId) : Descends s (s.vacate d) :=
  descends_of_tables rfl rfl rfl rfl rfl

theorem dropCalls_descends (s : State) (d : DeckId) : Descends s (s.dropCalls d) :=
  descends_of_tables rfl rfl rfl rfl rfl

theorem noteRefusal_descends (s : State) (g : GateId) (x : Decision) : Descends s (s.noteRefusal g x) := by
  unfold State.noteRefusal
  split
  · exact raise_descends _ _ _
  · exact .refl s

theorem refuseOne_descends (s : State) (g : GateId) : Descends s (s.refuseOne g) := by
  unfold State.refuseOne
  split
  · exact (setGate_descends _ _ _).trans (raise_descends _ _ _)
  · exact .refl s

theorem refuseWaiting_descends (s : State) (d : DeckId) : Descends s (s.refuseWaiting d) := by
  rw [refuseWaiting_eq_refuseOne]
  exact (refuseOne_descends _ _).trans (refuseOne_descends _ _)

theorem deckFault_descends (s : State) (d : DeckId) : Descends s (s.deckFault d) :=
  (setDeck_descends _ _ _).trans (refuseWaiting_descends _ _)

theorem missCell_descends (s : State) (d : DeckId) (i : Nat) : Descends s (s.missCell d i) := by
  have hfailed := (setDeck_descends s d _).trans (raise_descends (s.setCell d i { misses := 3, failed := true })
    .deckFault (.cell d i))
  unfold State.missCell
  dsimp only
  split
  · exact setDeck_descends _ _ _
  · split
    · exact hfailed.trans (deckFault_descends _ _)
    · exact hfailed.trans (deckFault_descends _ _)
    · exact hfailed

theorem eachDeck_descends (s : State) {f : State → DeckId → State} (hf : ∀ s d, Descends s (f s d)) :
    Descends s (s.eachDeck f) :=
  (hf _ _).trans (hf _ _)

theorem wakeYard_descends (s : State) (c : WakeCause) : Descends s (s.wakeYard c) := by
  rw [wakeYard_eq]
  refine Descends.trans ?_ (raise_descends _ _ _)
  exact descends_of_tables rfl rfl rfl rfl rfl

theorem wakeSource_descends (s : State) (c : WakeCause) : Descends s (s.wakeSource c) := by
  unfold State.wakeSource
  split
  · exact wakeYard_descends _ _
  · exact .refl s

theorem abortSession_descends (s : State) (d : DeckId) : Descends s (s.abortSession d) := by
  unfold State.abortSession
  split
  · split
    · exact (undo_descends _ _).trans (vacate_descends _ _)
    · exact (undo_descends _ _).trans (vacate_descends _ _)
    · exact (undo_descends _ _).trans (vacate_descends _ _)
    · exact vacate_descends _ _
  · exact vacate_descends _ _

/-! ### Resets and CLEAR_TABLES -/

theorem resetBlocks_descends (s : State) (cause : ResetCause) (lost : Bool) (pins : Pins) :
    Descends s (s.resetBlocks cause lost pins) := by
  obtain ⟨hsizes, hvehicles, haccounts, hvisit⟩ := resetRegister_descends s
  exact ⟨fun h => ⟨(hsizes h).1, (hsizes h).2.1, rfl⟩, hvehicles, haccounts, hvisit⟩

theorem loseRetained_descends (s : State) : Descends s s.loseRetained where
  sizes h := ⟨rfl, rfl, h.2.2⟩
  vehicles _ := List.Pairwise.nil
  accounts _ := List.Pairwise.nil
  visit n v h := by
    obtain ⟨sl, hsl, hv⟩ := visit_eq_some_iff.1 h
    obtain rfl := List.eq_of_mem_replicate (List.mem_of_getElem? hsl)
    cases hv

theorem clearTables_descends (s : State) : Descends s s.clearTables := by
  refine Descends.trans ?_ (eachDeck_descends _ refuseWaiting_descends)
  refine ⟨fun h => ⟨by simpa using h.1, rfl, h.2.2⟩, fun _ => List.Pairwise.nil, fun _ => List.Pairwise.nil, ?_⟩
  exact mapSlots_visit rfl fun sl v h => by rw [write_visit] at h; cases h

end Sys2Proof.Machine
end

section
/-! PROOFS. Laws of the visits: a property that passes to every state that descends from one with it, and through an open, an
AMEND and a close, passes through every operation of the yard and every command (R44, R49, R61, R67, R74). -/

namespace Sys2Proof.Machine

/-- A property of the register and the tables that descent, an open, an AMEND and a close each keep. -/
structure VisitLaw (P : State → Prop) : Prop where
  descends : ∀ {s t}, Descends s t → P s → P t
  opens : ∀ {s : State} {f : CallForm} {o : Opening} (n : Nat) (d : DeckId) (clock : Seconds), s.inboundCheck f = .ok o →
    P s → P (s.writeSlot n (some (o.visit d clock)))
  amends : ∀ {s : State} {n : Nat} {v : Visit} {w : Weighing} {p : Option Plate} (k : Option Nat) (a : Option AccountNo),
    s.visit n = some v → v.state = .onSite w → s.amendPlateFails v p = false → P s →
    P (s.writeSlot n (some (v.amended k p a)))
  closes : ∀ {s : State} {n : Nat} {u : Visit} (v : Visit) (c : Closing), s.visit n = some u → u.isClosed = false → P s →
    P (s.writeSlot n (some (v.withTicket (s.ticketOf v c))))

section Operations

variable {P : State → Prop} {s t : State}

/-- A state with the slots and tables of another has its laws. -/
theorem VisitLaw.of_tables (hP : VisitLaw P) (hs : P s) (hr : t.register.slots = s.register.slots)
    (hv : t.vehicles = s.vehicles) (ha : t.accounts = s.accounts) (hk : t.kinds = s.kinds)
    (hn : t.notices.length = s.notices.length) : P t :=
  hP.descends (descends_of_tables hr hv ha hk hn) hs

theorem VisitLaw.linkFree (hP : VisitLaw P) : LinkFree P where
  link _ _ hs := hP.of_tables hs rfl rfl rfl rfl rfl
  port _ _ hs := hP.of_tables hs rfl rfl rfl rfl rfl

/-! ### The close and the capture (R47 to R51) -/

theorem VisitLaw.closeRecord (hP : VisitLaw P) {n : Nat} {u : Visit} (hu : s.visit n = some u) (ho : u.isClosed = false)
    (v : Visit) (c : Closing) (hs : P s) : P (s.closeRecord n v c) := by
  have hcounter : P { s.writeSlot n (some (v.withTicket (s.ticketOf v c))) with
      register := { (s.writeSlot n (some (v.withTicket (s.ticketOf v c)))).register with
        nextTicket := nextNumber (s.ticketOf v c).number } } :=
    hP.of_tables (hP.closes v c hu ho hs) rfl rfl rfl rfl rfl
  have hdebit := hP.descends (debitVisit_descends _ v (s.ticketOf v c).charge) hcounter
  unfold State.closeRecord
  dsimp only
  refine hP.descends ((raise_descends _ _ _).trans (autoTare_descends _ _ _)) ?_
  split
  · exact hP.descends (countDown_descends _ _) hdebit
  · exact hdebit

theorem VisitLaw.closeAtCapture (hP : VisitLaw P) {n : Nat} {u v : Visit} (hu : s.visit n = some u)
    (ho : u.isClosed = false) (ht : v.tag = u.tag) (hp : v.plate = u.plate) (d : DeckId) (a b : Weighing) (hs : P s) :
    P (s.closeAtCapture n v d a b).1 := by
  unfold State.closeAtCapture
  dsimp only
  split
  · exact hP.descends (hold_descends hu ht hp _ _ _ _) hs
  · exact hP.descends (serveBus_descends _) (hP.closeRecord hu ho _ _ hs)

theorem VisitLaw.capture (hP : VisitLaw P) (n : Nat) (d : DeckId) (w : Weighing) (hs : P s) : P (s.capture n d w).1 := by
  unfold State.capture
  split
  · next v hv =>
    split
    · next e he =>
      split
      · exact hP.closeAtCapture (v := { v with onePass := true }) hv (by simp [Visit.isClosed, he]) rfl rfl _ _ _ hs
      · exact hP.descends (enterOnSite_descends hv
          (follows_of_state rfl rfl (fun _ => by simp [Visit.isOpen, he]) rfl) ⟨w, rfl⟩) hs
    · next e first he => exact hP.closeAtCapture hv (by simp [Visit.isClosed, he]) rfl rfl _ _ _ hs
    · exact hs
  · exact hs

theorem VisitLaw.captureInto (hP : VisitLaw P) (d : DeckId) (v : Serving) (w : Weighing) (hs : P s) :
    P (s.captureInto d v w) :=
  hP.descends (enterReleased_descends _ _ _) (hP.capture _ _ _ hs)

theorem VisitLaw.captureTest (hP : VisitLaw P) (d : DeckId) (hs : P s) : P (s.captureTest d) := by
  unfold State.captureTest
  split
  · split
    · exact hP.captureInto _ _ _ hs
    · exact hs
  · exact hs

/-! ### Calls and offers (R115, R118 to R121) -/

theorem VisitLaw.openIn (hP : VisitLaw P) {f : CallForm} {o : Opening} (ho : s.inboundCheck f = .ok o) (n : Nat)
    (d : DeckId) (hs : P s) : P (s.openIn n o d) := by
  have hopen := hP.descends (countUp_descends _ o.account) (hP.opens n d s.service.clock ho hs)
  unfold State.openIn
  dsimp only
  split
  · exact hP.descends (raise_descends _ _ _) hopen
  · exact hopen

theorem VisitLaw.takeCall (hP : VisitLaw P) (g : GateId) (f : CallForm) (hs : P s) : P (s.takeCall g f).1 := by
  unfold State.takeCall
  split
  · split
    · exact hs
    · next o ho =>
      split
      · dsimp only
        exact hP.descends (setUpSession_descends _ _ _ _) (hP.openIn ho _ _ hs)
      · exact hs
  · split
    · exact hs
    · dsimp only
      exact hP.descends ((depart_descends _ _ _).trans (setUpSession_descends _ _ _ _)) hs

theorem VisitLaw.judgeCall (hP : VisitLaw P) (g : GateId) (f : CallForm) (hs : P s) : P (s.judgeCall g f).1 := by
  unfold State.judgeCall
  split
  · exact hs
  · split
    · exact hs
    · split
      · exact hs
      · exact hP.takeCall _ _ hs

theorem VisitLaw.arbitrateCall (hP : VisitLaw P) (g : GateId) (f : CallForm) (hs : P s) : P (s.arbitrateCall g f).1 := by
  have hjudged := hP.judgeCall g f hs
  unfold State.arbitrateCall
  dsimp only
  split
  · exact hP.descends (setGate_descends _ _ _) hjudged
  · exact hP.descends (noteRefusal_descends _ _ _) hjudged

theorem VisitLaw.offerOne (hP : VisitLaw P) (g : GateId) (hs : P s) : P (s.offerOne g) := by
  unfold State.offerOne
  split
  · exact hs
  · dsimp only
    split
    · exact hs
    · exact hP.descends ((setGate_descends _ _ _).trans (noteRefusal_descends _ _ _)) (hP.judgeCall _ _ hs)

theorem VisitLaw.offer (hP : VisitLaw P) (d : DeckId) (hs : P s) : P (s.offer d) := by
  unfold State.offer
  split
  · dsimp only
    split
    · exact hP.offerOne _ (hP.offerOne _ hs)
    · exact hP.offerOne _ hs
  · exact hs

/-! ### The session (R122 to R129) -/

theorem VisitLaw.clearingTest (hP : VisitLaw P) (d : DeckId) (v : Serving) (hs : P s) : P (s.clearingTest d v) := by
  have hvacant := hP.offer d (hP.descends (vacate_descends s d) hs)
  unfold State.clearingTest
  dsimp only
  split
  · exact hvacant
  · split
    · exact hP.descends (enterReleased_descends _ _ _) hs
    · split
      · exact hvacant
      · exact hs

theorem VisitLaw.clearWaived (hP : VisitLaw P) (d : DeckId) (v : Serving) (hs : P s) : P (s.clearWaived d v) :=
  hP.clearingTest _ _ (hP.descends (enterClearing_descends _ _ _) hs)

theorem VisitLaw.sessionBarrier (hP : VisitLaw P) (g : GateId) (hs : P s) : P (s.sessionBarrier g) := by
  unfold State.sessionBarrier
  split
  · split
    · exact hP.captureTest _ hs
    · split
      · exact hP.clearingTest _ _ hs
      · exact hs
    · exact hs
  · exact hs

theorem VisitLaw.sessionLoop (hP : VisitLaw P) (g : GateId) (occupied : Bool) (hs : P s) :
    P (s.sessionLoop g occupied) := by
  have hset (x : Option Serving) : P (s.setSession g.deck x) := hP.descends (setDeck_descends _ _ _) hs
  unfold State.sessionLoop
  dsimp only
  split
  · split
    · split
      · exact hset _
      · exact hs
    · split
      · exact hset _
      · exact hs
    · exact hP.captureTest _ hs
    · split
      · exact hset _
      · exact hs
    · split
      · split
        · exact hP.clearWaived _ _ hs
        · exact hset _
      · exact hs
    · split
      · exact hset _
      · exact hP.clearingTest _ _ hs
  · exact hs

theorem VisitLaw.sessionEvaluation (hP : VisitLaw P) (d : DeckId) (hs : P s) : P (s.sessionEvaluation d) := by
  unfold State.sessionEvaluation
  dsimp only
  split
  · split
    · split
      · split
        · exact hP.descends (enterOnDeck_descends _ _ _) hs
        · exact hP.descends (setDeck_descends _ _ _) hs
      · exact hs
    · exact hP.captureTest _ hs
    · split
      · split
        · exact hP.descends (enterReleased_descends _ _ _) hs
        · exact hP.descends (enterClearing_descends _ _ _) hs
      · exact hs
    · exact hP.clearingTest _ _ hs
    · exact hs
  · exact hs

theorem VisitLaw.barrierMoved (hP : VisitLaw P) (g : GateId) (before : Barrier) (hs : P s) :
    P (s.barrierMoved g before) := by
  have hnoted : P (if (s.gate g).barrier = .fault ∧ before ≠ .fault then s.raise .barrierFault (.gate g) else s) := by
    split
    · exact hP.descends (raise_descends _ _ _) hs
    · exact hs
  unfold State.barrierMoved
  dsimp only
  split
  · exact hnoted
  · exact hP.sessionBarrier _ hnoted

theorem VisitLaw.gateEvent (hP : VisitLaw P) (g : GateId) (f : Gate → Gate) (hs : P s) : P (s.gateEvent g f) :=
  hP.barrierMoved _ _ (hP.descends (setGate_descends _ _ _) hs)

theorem VisitLaw.unlockGate (hP : VisitLaw P) (g : GateId) (hs : P s) : P (s.unlockGate g) := by
  unfold State.unlockGate
  split
  · dsimp only
    split
    · exact hP.offer _ (hP.gateEvent _ _ hs)
    · exact hP.gateEvent _ _ hs
  · exact hs

theorem VisitLaw.cancel (hP : VisitLaw P) {d : DeckId} {v : Serving} (hs : P s) (h : s.cancel d v = some t) : P t := by
  have hundo := hP.descends (undo_descends s v.slot) hs
  unfold State.cancel at h
  split at h
  · cases h
    exact hP.descends (enterClearing_descends _ _ _) hundo
  · cases h
    exact hP.descends ((setGate_descends _ _ _).trans (setDeck_descends _ _ _)) hundo
  · cases h
    exact hP.descends (enterReleased_descends _ _ _) hundo
  all_goals
    split at h
    · cases h
      exact hP.clearWaived _ _ hs
    · cases h

/-! ### The cycles of a deck (R1, R6) -/

theorem VisitLaw.writeEvaluation (hP : VisitLaw P) (d : DeckId) (r : CalRecord) (warming : Bool) (good : List Good)
    (hs : P s) : P (s.writeEvaluation d r warming good) := by
  rw [writeEvaluation_eq]
  split
  · exact hP.descends ((setDeck_descends _ _ _).trans (raise_descends _ _ _)) hs
  · exact hP.descends (setDeck_descends _ _ _) hs

theorem VisitLaw.evaluate (hP : VisitLaw P) (d : DeckId) (warming : Bool) (good : List Good) (hs : P s) :
    P (s.evaluate d warming good) := by
  cases hr : (s.deck d).cal.record with
  | none => simpa only [State.evaluate, hr] using hs
  | some r =>
    have hsession := hP.sessionEvaluation d (hP.writeEvaluation d r warming good hs)
    rw [evaluate_eq hr]
    split
    · exact hP.offer _ hsession
    · exact hsession

theorem VisitLaw.pollNext (hP : VisitLaw P) (d : DeckId) (warming : Bool) (todo : List Nat) (good : List Good)
    (hs : P s) : P (s.pollNext d warming todo good) := by
  cases todo with
  | nil => exact hP.evaluate _ _ _ (hP.descends (setDeck_descends _ _ _) hs)
  | cons i rest => exact hP.descends (setDeck_descends _ _ _) hs

theorem VisitLaw.takeSlot (hP : VisitLaw P) (d : DeckId) (hs : P s) : P (s.takeSlot d) := by
  unfold State.takeSlot
  dsimp only
  split
  · exact hP.pollNext _ _ _ _ (hP.descends (setDeck_descends _ _ _) hs)
  · exact hP.descends (setDeck_descends _ _ _) hs

theorem VisitLaw.endExchange (hP : VisitLaw P) (d : DeckId) (c : Cycle) (g : Option Good) (hs : P s) :
    P (s.endExchange d c g) := by
  cases g with
  | none => exact hP.pollNext _ _ _ _ (hP.descends (missCell_descends _ _ _) hs)
  | some g => exact hP.pollNext _ _ _ _ (hP.descends (setDeck_descends _ _ _) hs)

/-! ### The emergency, the loops, the readers and the resets -/

theorem VisitLaw.setLatch (hP : VisitLaw P) (hs : P s) : P s.setLatch := by
  have hset := hP.of_tables (t := { s with emergency := { s.emergency with latch := true } }) hs rfl rfl rfl rfl rfl
  unfold State.setLatch
  dsimp only
  refine hP.descends ((wakeSource_descends _ _).trans (raise_descends _ _ _)) ?_
  refine eachDeck_keeps (fun s d h => hP.descends ((abortSession_descends _ _).trans (dropCalls_descends _ _)) h) ?_
  exact eachGate_keeps (fun s g h => hP.gateEvent g _ h) hset

theorem VisitLaw.releaseLatch (hP : VisitLaw P) (hs : P s) : P s.releaseLatch := by
  have hreleased := hP.of_tables (t := { s with emergency := { s.emergency with latch := false } }) hs rfl rfl rfl rfl rfl
  unfold State.releaseLatch
  dsimp only
  refine eachDeck_keeps (fun s d h => hP.offer d h) ?_
  exact eachGate_keeps (fun s g h => hP.gateEvent g _ h) hreleased

theorem VisitLaw.loopEvent (hP : VisitLaw P) (g : GateId) (occupied : Bool) (hs : P s) : P (s.loopEvent g occupied) := by
  have hsession := hP.sessionLoop g occupied (hP.gateEvent g (fun x => x.loopChange s.now occupied) hs)
  unfold State.loopEvent
  dsimp only
  split
  · exact hP.descends (wakeSource_descends _ _) hsession
  · exact hsession

theorem VisitLaw.acceptedRead (hP : VisitLaw P) (g : GateId) (tag : Tag) (hs : P s) : P (s.acceptedRead g tag) := by
  unfold State.acceptedRead
  split
  · split
    · exact hP.arbitrateCall _ _ (hP.descends (wakeYard_descends _ _) hs)
    · exact hs
  · exact hP.arbitrateCall _ _ hs

theorem VisitLaw.performReset (hP : VisitLaw P) (cause : ResetCause) (lost : Bool) (pins : Pins) (hs : P s) :
    P (s.performReset cause lost pins) := by
  have hblocks := hP.descends ((resetBlocks_descends s cause lost pins).trans (serveBus_descends _)) hs
  unfold State.performReset
  dsimp only
  split
  · exact hP.setLatch hblocks
  · exact hblocks

/-! ### AMEND and RESOLVE CLOSE (R56, R58) -/

theorem VisitLaw.amend (hP : VisitLaw P) {n : Nat} {v : Visit} {w : Weighing} (hv : s.visit n = some v)
    (hw : v.state = .onSite w) (kind : Option Byte) (plate : Option (List Byte)) (account : Option AccountNo) (hs : P s) :
    P (s.amend n v kind plate account).1 := by
  unfold State.amend
  split
  · split
    · exact hs
    · split
      · exact hs
      · next hplate =>
        split
        · exact hs
        · exact hP.descends (moveAccount_descends _ _ _) (hP.amends _ _ hv hw (by simpa using hplate) hs)
  · exact hs

theorem VisitLaw.resolveClose (hP : VisitLaw P) {n : Nat} {v : Visit} (hv : s.visit n = some v)
    (ho : v.isClosed = false) (a b : Weighing) (target : Byte) (net : Option (BitVec 32)) (hs : P s) :
    P (s.resolveClose n v a b target net).1 := by
  have hclose (c : Closing) : P ((s.closeRecord n v c).doneAndServe n).1 :=
    hP.descends (serveBus_descends _) (hP.closeRecord hv ho v c hs)
  unfold State.resolveClose
  split
  · exact hs
  · split
    · split
      · exact hclose _
      · exact hs
    · dsimp only
      split
      · exact hs
      · exact hclose _

end Operations

end Sys2Proof.Machine
end

section
/-! PROOFS. Laws of the visits through every command and every step. -/

namespace Sys2Proof.Machine

section Commands

variable {P : State → Prop} {s t : State}

/-! ### The requests on visits -/

/-- A request keeps the laws its performance keeps (R175). -/
theorem VisitLaw.request (hP : VisitLaw P) {kind : Byte} {f : State → State × Reply} (hf : ∀ s, P s → P (f s).1)
    (hs : P s) (h : request kind f s = .next t) : P t :=
  request_keeps hP.linkFree (fun s _ => hf s) hs h

/-- A visit request keeps the laws that its own part keeps (R55). -/
theorem VisitLaw.visitRequest (hP : VisitLaw P) {kind slot : Byte} {expected : Option Revision}
    {own : State → Nat → State × Reply} (hf : ∀ s n, P s → P (own s n).1) (hs : P s)
    (h : Machine.request kind (fun s => s.visitRequest slot expected (own s)) s = .next t) : P t :=
  hP.request (fun s hs => visitRequest_keeps (fun n => hf s n hs) hs) hs h

theorem VisitLaw.execSeek (hP : VisitLaw P) {slot step filter : Byte} (hs : P s)
    (h : execSeek slot step filter s = .next t) : P t := by
  refine hP.request (fun s hs => ?_) hs h
  split
  · split <;> exact hP.descends (setCursor_descends _ _) hs
  · exact hs

theorem VisitLaw.execWalk (hP : VisitLaw P) (hs : P s) (h : execWalk s = .next t) : P t := by
  refine hP.request (fun s hs => ?_) hs h
  dsimp only
  split
  · exact hs
  · split <;> exact hP.descends (setCursor_descends _ _) hs

theorem VisitLaw.execAmend (hP : VisitLaw P) {slot : Byte} {e : Option Revision} {k : Option Byte}
    {p : Option (List Byte)} {a : Option AccountNo} (hs : P s) (h : execAmend slot e k p a s = .next t) : P t := by
  refine hP.visitRequest (fun s n hs => ?_) hs h
  split
  · next v hv =>
    split
    · next w hw => exact hP.amend hv hw _ _ _ hs
    · exact hs
  · exact hs

theorem VisitLaw.execCancelVisit (hP : VisitLaw P) {slot : Byte} {e : Option Revision} (hs : P s)
    (h : execCancelVisit slot e s = .next t) : P t := by
  refine hP.visitRequest (fun s n hs => ?_) hs h
  split
  · split
    · exact hP.descends ((freeSlot_descends _ _).trans (countDown_descends _ _)) hs
    · exact hs
  · exact hs

theorem VisitLaw.execResolveClose (hP : VisitLaw P) {slot action target : Byte} {e : Option Revision}
    {net : Option (BitVec 32)} (hs : P s) (h : execResolveClose slot e action target net s = .next t) : P t := by
  refine hP.visitRequest (fun s n hs => ?_) hs h
  split
  · next v hv =>
    split
    · next a b k r hst =>
      split
      · exact hP.resolveClose hv (by simp [Visit.isClosed, hst]) _ _ _ _ hs
      · split
        · exact hP.descends (freeSlot_descends _ _) hs
        · exact hs
    · exact hs
  · exact hs

theorem VisitLaw.execResolveDiscard (hP : VisitLaw P) {slot : Byte} {e : Option Revision} (hs : P s)
    (h : execResolveDiscard slot e s = .next t) : P t := by
  refine hP.visitRequest (fun s n hs => ?_) hs h
  split
  · split
    · exact hP.descends (freeSlot_descends _ _) hs
    · exact hs
  · exact hs

theorem VisitLaw.execCollect (hP : VisitLaw P) {slot : Byte} {e : Option Revision} (hs : P s)
    (h : execCollect slot e s = .next t) : P t := by
  refine hP.visitRequest (fun s n hs => ?_) hs h
  split
  · next v hv =>
    split
    · next k hk => exact hP.descends (afterTicket_descends hv hk rfl) hs
    · exact hs
  · exact hs

theorem VisitLaw.execSetTicketNext (hP : VisitLaw P) {number : BitVec 32} (hs : P s)
    (h : execSetTicketNext number s = .next t) : P t := by
  refine hP.request (fun s hs => ?_) hs h
  split
  · exact hs
  · split
    · exact hs
    · exact hP.of_tables hs rfl rfl rfl rfl rfl

/-! ### The requests on tables -/

theorem VisitLaw.execPutVehicle (hP : VisitLaw P) {body : VehicleBody} (hs : P s)
    (h : execPutVehicle body s = .next t) : P t := by
  refine hP.request (fun s hs => ?_) hs h
  split
  · exact hs
  · split
    · exact hs
    · split
      · exact hs
      · split
        · exact hs
        · exact hP.descends (putVehicle_descends _ _) hs

theorem VisitLaw.execDropVehicle (hP : VisitLaw P) {tag : Tag} (hs : P s) (h : execDropVehicle tag s = .next t) :
    P t := by
  refine hP.request (fun s hs => ?_) hs h
  split
  · exact hs
  · split
    · exact hs
    · exact hP.descends (filterVehicles_descends _ _) hs

theorem VisitLaw.execSetTareFromDeck (hP : VisitLaw P) {tag : Tag} {deck : Byte} (hs : P s)
    (h : execSetTareFromDeck tag deck s = .next t) : P t := by
  refine hP.request (fun s hs => ?_) hs h
  dsimp only
  split
  · split
    · exact hs
    · split
      · exact hs
      · split
        · exact hs
        · split
          · exact hs
          · split
            · exact hs
            · exact hP.descends (putVehicle_descends _ _) hs
  · exact hs

theorem VisitLaw.execPutAccount (hP : VisitLaw P) {number : AccountNo} {opening floor : BitVec 32} {limit : Byte}
    (hs : P s) (h : execPutAccount number opening floor limit s = .next t) : P t := by
  refine hP.request (fun s hs => ?_) hs h
  dsimp only
  split
  · exact hs
  · split
    · exact hP.descends (putAccount_descends _ _) hs
    · split
      · exact hs
      · exact hP.descends (putAccount_descends _ _) hs

/-- An account request keeps the laws that its own part keeps (R78 to R82). -/
theorem VisitLaw.accountRequest (hP : VisitLaw P) {kind : Byte} {number : AccountNo}
    {own : State → Account → State × Reply} (hf : ∀ s a, P s → P (own s a).1) (hs : P s)
    (h : Machine.request kind (fun s => s.withAccount number (own s)) s = .next t) : P t :=
  hP.request (fun s hs => withAccount_keeps (fun a => hf s a hs) hs) hs h

theorem VisitLaw.execCredit (hP : VisitLaw P) {number : AccountNo} {amount : BitVec 32} (hs : P s)
    (h : execCredit number amount s = .next t) : P t := by
  refine hP.accountRequest (fun s a hs => ?_) hs h
  have hput := hP.descends (putAccount_descends s (a.credit amount.toInt)) hs
  dsimp only
  split
  · exact hP.descends (raise_descends _ _ _) hput
  · exact hput

theorem VisitLaw.execRelease (hP : VisitLaw P) {number : AccountNo} (hs : P s) (h : execRelease number s = .next t) :
    P t := by
  refine hP.accountRequest (fun s a hs => ?_) hs h
  split
  · exact hP.descends (putAccount_descends _ _) hs
  · exact hs

theorem VisitLaw.execDropAccount (hP : VisitLaw P) {number : AccountNo} (hs : P s)
    (h : execDropAccount number s = .next t) : P t := by
  refine hP.accountRequest (fun s a hs => ?_) hs h
  split
  · exact hs
  · split
    · exact hs
    · exact hP.descends (filterAccounts_descends _ _) hs

theorem setKind_descends (s : State) (i : Nat) (k : Kind) : Descends s { s with kinds := s.kinds.set i k } :=
  ⟨fun ⟨hslots, hkinds, hnotices⟩ => ⟨hslots, (List.length_set ..).trans hkinds, hnotices⟩, id, id,
    fun _ v hv => ⟨v, hv, .refl v⟩⟩

theorem VisitLaw.execPutKind (hP : VisitLaw P) {code accepted directions : Byte} {rate minimum : BitVec 32} (hs : P s)
    (h : execPutKind code accepted directions rate minimum s = .next t) : P t := by
  refine hP.request (fun s hs => ?_) hs h
  split
  · exact hP.descends (setKind_descends _ _ _) hs
  · exact hs

/-! ### The requests on decks, gates and sessions -/

theorem calibrate_descends (s : State) (d : DeckId) (r : CalRecord) : Descends s (s.calibrate d r) := by
  unfold State.calibrate
  dsimp only
  split
  · exact setDeck_descends _ _ _
  · exact (setDeck_descends _ _ _).trans (setDeck_descends _ _ _)

theorem VisitLaw.execCalPut (hP : VisitLaw P) {closed : Bool} {body : CalBody} (hs : P s)
    (h : execCalPut closed body s = .next t) : P t := by
  refine hP.request (fun s hs => ?_) hs h
  dsimp only
  split
  · exact hs
  · split
    · exact hs
    · split
      · exact hs
      · split
        · exact hs
        · exact hP.descends (calibrate_descends _ _ _) hs

theorem VisitLaw.execZero (hP : VisitLaw P) {deck : Byte} (hs : P s) (h : execZero deck s = .next t) : P t := by
  refine hP.request (fun s hs => ?_) hs h
  split
  · exact hs
  · dsimp only
    split
    · exact hs
    · split
      · exact hs
      · split
        · exact hs
        · split
          · exact hs
          · split
            · exact hs
            · exact hP.descends (setDeck_descends _ _ _) hs

theorem VisitLaw.execRetryCell (hP : VisitLaw P) {deck cell : Byte} (hs : P s)
    (h : execRetryCell deck cell s = .next t) : P t := by
  refine hP.request (fun s hs => ?_) hs h
  split
  · exact hs
  · split
    · exact hs
    · split
      · exact hs
      · split
        · exact hP.descends (setDeck_descends _ _ _) hs
        · exact hs

theorem VisitLaw.execSetGate (hP : VisitLaw P) {gate warn drive settle : Byte} (hs : P s)
    (h : execSetGate gate warn drive settle s = .next t) : P t := by
  refine hP.request (fun s hs => ?_) hs h
  split
  · exact hs
  · exact hP.descends (setGate_descends _ _ _) hs

theorem VisitLaw.hostMove (hP : VisitLaw P) (gate : Byte) (f : Gate → Gate) (hs : P s) : P (s.hostMove gate f).1 := by
  unfold State.hostMove
  split
  · exact hs
  · split
    · exact hs
    · exact hP.gateEvent _ _ hs

theorem VisitLaw.execResetGate (hP : VisitLaw P) {gate : Byte} (hs : P s) (h : execResetGate gate s = .next t) :
    P t := by
  refine hP.request (fun s hs => ?_) hs h
  split
  · exact hs
  · split
    · exact hs
    · split
      · exact hs
      · dsimp only
        exact hP.gateEvent _ _ hs

theorem VisitLaw.execLock (hP : VisitLaw P) {gate : Byte} (hs : P s) (h : execLock gate s = .next t) : P t := by
  refine hP.request (fun s hs => ?_) hs h
  split
  · exact hs
  · exact hP.descends (setGate_descends _ _ _) hs

theorem VisitLaw.execUnlock (hP : VisitLaw P) {gate : Byte} (hs : P s) (h : execUnlock gate s = .next t) : P t := by
  refine hP.request (fun s hs => ?_) hs h
  split
  · exact hs
  · exact hP.unlockGate _ hs

theorem VisitLaw.execReadGate (hP : VisitLaw P) {gate clear : Byte} (hs : P s)
    (h : execReadGate gate clear s = .next t) : P t := by
  refine hP.request (fun s hs => ?_) hs h
  split
  · dsimp only
    split
    · exact hP.descends (setGate_descends _ _ _) hs
    · exact hs
  · exact hs

theorem VisitLaw.execCall (hP : VisitLaw P) {gate form : Byte} {key : List Byte} {account : AccountNo}
    {kind direction : Byte} (hs : P s) (h : execCall gate form key account kind direction s = .next t) : P t := by
  refine hP.request (fun s hs => ?_) hs h
  split
  · exact hs
  · split
    · exact hs
    · split
      · exact hs
      · exact hP.arbitrateCall _ _ hs

theorem VisitLaw.execManualCapture (hP : VisitLaw P) {deck : Byte} {weight : BitVec 32} (hs : P s)
    (h : execManualCapture deck weight s = .next t) : P t := by
  refine hP.request (fun s hs => ?_) hs h
  split
  · exact hs
  · split
    · exact hs
    · split
      · exact hs
      · split
        · exact hs
        · exact hP.captureInto _ _ _ hs

theorem VisitLaw.execCancelSession (hP : VisitLaw P) {deck : Byte} (hs : P s)
    (h : execCancelSession deck s = .next t) : P t := by
  refine hP.request (fun s hs => ?_) hs h
  split
  · exact hs
  · split
    · exact hs
    · split
      · next hcancel => exact hP.cancel hs hcancel
      · exact hs

theorem VisitLaw.execSetDeckTimers (hP : VisitLaw P) {deck : Byte} {board capture wait : BitVec 16} (hs : P s)
    (h : execSetDeckTimers deck board capture wait s = .next t) : P t := by
  refine hP.request (fun s hs => ?_) hs h
  split
  · exact hs
  · exact hP.descends (setDeck_descends _ _ _) hs

theorem VisitLaw.execEmergencyRelease (hP : VisitLaw P) (hs : P s) (h : execEmergencyRelease s = .next t) : P t := by
  refine hP.request (fun s hs => ?_) hs h
  split
  · exact hs
  · split
    · exact hs
    · exact hP.releaseLatch hs

theorem VisitLaw.execQuiet (hP : VisitLaw P) (hs : P s) (h : execQuiet s = .next t) : P t := by
  refine hP.request (fun s hs => ?_) hs h
  split
  · exact hs
  · split
    · exact hs
    · dsimp only
      refine eachDeck_keeps (P := P) (fun s d hs => ?_) (hP.of_tables hs rfl rfl rfl rfl rfl)
      rw [enterAsleep_eq]
      exact hP.descends (setDeck_descends _ _ _) hs

theorem VisitLaw.execWake (hP : VisitLaw P) (hs : P s) (h : execWake s = .next t) : P t := by
  refine hP.request (fun s hs => ?_) hs h
  split
  · exact hP.descends (wakeYard_descends _ _) hs
  · exact hs

/-! ### The requests on printers, notices and the Service Unit -/

theorem returnPrinter_descends (s : State) (p : PrinterId) : Descends s (s.returnPrinter p).1 :=
  (setPrinter_descends _ _ _).trans (serveBus_descends _)

theorem VisitLaw.execHoldPrinter (hP : VisitLaw P) {printer : Byte} (hs : P s)
    (h : execHoldPrinter printer s = .next t) : P t := by
  refine hP.request (fun s hs => ?_) hs h
  split
  · exact hs
  · split
    · exact hP.descends (setPrinter_descends _ _ _) hs
    · exact hP.descends (setPrinter_descends _ _ _) hs
    · exact hs
    · exact hs

theorem VisitLaw.execReleasePrinter (hP : VisitLaw P) {printer : Byte} (hs : P s)
    (h : execReleasePrinter printer s = .next t) : P t := by
  refine hP.request (fun s hs => ?_) hs h
  split
  · exact hs
  · split
    · split
      · exact hP.descends (setPrinter_descends _ _ _) hs
      · exact hs
    · exact hP.descends (returnPrinter_descends _ _) hs
    · exact hs

theorem VisitLaw.execResumePrinter (hP : VisitLaw P) {printer : Byte} (hs : P s)
    (h : execResumePrinter printer s = .next t) : P t := by
  refine hP.request (fun s hs => ?_) hs h
  split
  · exact hs
  · split
    · exact hP.descends (returnPrinter_descends _ _) hs
    · exact hs

theorem VisitLaw.execRedirect (hP : VisitLaw P) {slot target : Byte} {e : Option Revision} (hs : P s)
    (h : execRedirect slot e target s = .next t) : P t := by
  refine hP.visitRequest (fun s n hs => ?_) hs h
  split
  · next v hv =>
    split
    · next k hk =>
      split
      · exact hs
      · split
        · exact hs
        · exact hP.descends ((afterTicket_descends (t' := k.redirected _) hv hk rfl).trans (serveBus_descends _)) hs
    · exact hs
  · exact hs

theorem VisitLaw.execReprint (hP : VisitLaw P) {slot : Byte} {e : Option Revision} (hs : P s)
    (h : execReprint slot e s = .next t) : P t := by
  refine hP.visitRequest (fun s n hs => ?_) hs h
  split
  · next v hv =>
    split
    · next k hk =>
      split
      · exact hs
      · split
        · exact hs
        · split
          · have hwrite := followSlot_descends hv (withTicket_follows (t' := { k with mark := .unprinted }) hk rfl
              (by simp [Ticket.settled]))
            exact hP.descends (hwrite.trans (serveBus_descends _)) hs
          · exact hs
    · exact hs
  · exact hs

theorem VisitLaw.execTakeNotice (hP : VisitLaw P) (hs : P s) (h : execTakeNotice s = .next t) : P t := by
  refine hP.request (fun s hs => ?_) hs h
  split
  · exact hP.of_tables hs rfl rfl rfl rfl (List.length_modify ..)
  · exact hs

theorem VisitLaw.execDropNotices (hP : VisitLaw P) (hs : P s) (h : execDropNotices s = .next t) : P t :=
  hP.request (fun _ hs => hP.of_tables hs rfl rfl rfl rfl (List.length_map _)) hs h

theorem VisitLaw.execSetNotice (hP : VisitLaw P) {kind enable level : Byte} (hs : P s)
    (h : execSetNotice kind enable level s = .next t) : P t := by
  refine hP.request (fun s hs => ?_) hs h
  split
  · exact hP.of_tables hs rfl rfl rfl rfl (List.length_modify ..)
  · exact hs

theorem VisitLaw.execSetClock (hP : VisitLaw P) {seconds : Seconds} (hs : P s)
    (h : execSetClock seconds s = .next t) : P t := by
  refine hP.request (fun s hs => ?_) hs h
  dsimp only
  exact hP.descends ((setService_descends _ _).trans (checkStays_descends _)) hs

theorem VisitLaw.execSetSite (hP : VisitLaw P) {maxStay tagWake loopWake : Byte} (hs : P s)
    (h : execSetSite maxStay tagWake loopWake s = .next t) : P t := by
  refine hP.request (fun s hs => ?_) hs h
  dsimp only
  split
  · dsimp only
    exact hP.descends ((setService_descends _ _).trans (checkStays_descends _)) hs
  · exact hs

theorem VisitLaw.execClearTables (hP : VisitLaw P) {closed : Bool} (hs : P s)
    (h : execClearTables closed s = .next t) : P t := by
  refine hP.request (fun s hs => ?_) hs h
  split
  · exact hs
  · split
    · exact hs
    · exact hP.descends (clearTables_descends _) hs

/-! ### The resets, the supply and the yard clock -/

theorem VisitLaw.execRestart (hP : VisitLaw P) {pins : Pins} (hs : P s) (h : execRestart pins s = .next t) : P t := by
  refine selection_keeps hP.linkFree (fun s _ hs => ?_) hs h
  split
  · exact hP.linkFree.link _ _ hs
  · exact hP.performReset _ _ _ hs

theorem VisitLaw.execPowerOn (hP : VisitLaw P) {pins : Pins} (hs : P s) (h : execPowerOn pins s = .next t) : P t := by
  obtain rfl := Host.Outcome.next.inj h
  split
  · exact hP.performReset _ _ _ hs
  · exact hP.performReset _ _ _ (hP.descends (loseRetained_descends s) hs)

/-- The loss of the supply leaves the slots and the tables (R182). -/
theorem execMainSupplyLoss_descends {fails : Bool} (h : execMainSupplyLoss fails s = .next t) : Descends s t := by
  obtain rfl := Host.Outcome.next.inj h
  exact ⟨fun ⟨hslots, hkinds, _⟩ => ⟨hslots, hkinds, rfl⟩, id, id, fun _ v hv => ⟨v, hv, .refl v⟩⟩

theorem tickClock_descends (s : State) : Descends s s.tickClock := descends_of_tables rfl rfl rfl rfl rfl

theorem VisitLaw.execYardClockAdvance (hP : VisitLaw P) (hs : P s) (h : execYardClockAdvance s = .next t) : P t := by
  obtain rfl := Host.Outcome.next.inj h
  split
  · exact hP.descends ((tickClock_descends s).trans (checkStays_descends _)) hs
  · split
    · exact hP.descends (tickClock_descends s) hs
    · exact hs

/-! ### The events of cells, gates and sessions -/

/-- An event keeps the laws its own work keeps (log 5). -/
theorem VisitLaw.event (_ : VisitLaw P) {f : State → State} (hf : ∀ s, P s → P (f s)) (hs : P s)
    (h : event f s = .next t) : P t :=
  event_keeps (fun s _ => hf s) hs h

theorem VisitLaw.execCycleSlot (hP : VisitLaw P) {d : DeckId} (hs : P s) (h : execCycleSlot d s = .next t) : P t := by
  refine hP.event (fun s hs => ?_) hs h
  have hpassed : P (s.slotPassed d) := hP.of_tables hs rfl rfl rfl rfl rfl
  dsimp only
  split
  · exact hP.takeSlot _ hpassed
  · exact hpassed

theorem VisitLaw.execCellAnswer (hP : VisitLaw P) {d : DeckId} {f : List Byte} (hs : P s)
    (h : execCellAnswer d f s = .next t) : P t := by
  refine hP.event (fun s hs => ?_) hs h
  split
  · exact hP.endExchange _ _ _ hs
  · exact hs

theorem VisitLaw.execAnswerWindowLapse (hP : VisitLaw P) {d : DeckId} (hs : P s)
    (h : execAnswerWindowLapse d s = .next t) : P t := by
  refine hP.event (fun s hs => ?_) hs h
  split
  · exact hP.endExchange _ _ _ (hP.descends (reach_descends _ _) hs)
  · exact hs

theorem VisitLaw.execWarmUpLapse (hP : VisitLaw P) {d : DeckId} (hs : P s) (h : execWarmUpLapse d s = .next t) :
    P t := by
  refine hP.event (fun s hs => ?_) hs h
  split
  · exact hs
  · next due _ =>
    have hlapsed (k : Deck) : P ((s.reach due).setDeck d k) :=
      hP.descends ((reach_descends _ _).trans (setDeck_descends _ _ _)) hs
    dsimp only
    split
    · split
      · exact hP.descends (deckFault_descends _ _) (hlapsed _)
      · exact hlapsed _
    · exact hlapsed _

theorem VisitLaw.execLoopStateChange (hP : VisitLaw P) {g : GateId} {occupied : Bool} (hs : P s)
    (h : execLoopStateChange g occupied s = .next t) : P t := by
  refine hP.event (fun s hs => ?_) hs h
  split
  · exact hs
  · exact hP.loopEvent _ _ hs

theorem VisitLaw.execLimitSwitchChange (hP : VisitLaw P) {g : GateId} {w : LimitSwitch} {active : Bool} (hs : P s)
    (h : execLimitSwitchChange g w active s = .next t) : P t := by
  refine hP.event (fun s hs => ?_) hs h
  cases w
  all_goals
    dsimp only
    split
    · exact hs
    · exact hP.gateEvent _ _ hs

/-- The lapse of a phase timer keeps the laws of the visits (R93, R100). -/
theorem VisitLaw.phaseLapse (hP : VisitLaw P) (g : GateId) (p : Phase) (f : Nat → Gate → Gate) (hs : P s) :
    P (s.phaseLapse g p f) :=
  phaseLapse_keeps (fun _ _ => hP.descends (reach_descends _ _)) (fun _ _ => hP.gateEvent _ _) hs

theorem VisitLaw.execTagFrame (hP : VisitLaw P) {g : GateId} {f : List Byte} (hs : P s)
    (h : execTagFrame g f s = .next t) : P t := by
  refine hP.event (fun s hs => ?_) hs h
  split
  · exact hP.descends (setGate_descends _ _ _) hs
  · dsimp only
    split
    · exact hP.acceptedRead _ _ (hP.descends (setGate_descends _ _ _) hs)
    · exact hP.descends (setGate_descends _ _ _) hs

theorem VisitLaw.execCallWaitLapse (hP : VisitLaw P) {g : GateId} (hs : P s) (h : execCallWaitLapse g s = .next t) :
    P t := by
  refine hP.event (fun s hs => ?_) hs h
  split
  · exact hP.descends (((reach_descends _ _).trans (setGate_descends _ _ _)).trans (raise_descends _ _ _)) hs
  · exact hs

theorem VisitLaw.execBoardTimerLapse (hP : VisitLaw P) {d : DeckId} (hs : P s)
    (h : execBoardTimerLapse d s = .next t) : P t := by
  refine hP.event (fun s hs => ?_) hs h
  split
  · split
    · exact hP.descends (((reach_descends _ _).trans (undo_descends _ _)).trans (enterClearing_descends _ _ _)) hs
    · exact hs
  · exact hs

theorem VisitLaw.execCaptureTimerLapse (hP : VisitLaw P) {d : DeckId} (hs : P s)
    (h : execCaptureTimerLapse d s = .next t) : P t := by
  refine hP.event (fun s hs => ?_) hs h
  split
  · split
    · exact hP.descends (((reach_descends _ _).trans (setDeck_descends _ _ _)).trans (raise_descends _ _ _)) hs
    · exact hs
  · exact hs

theorem VisitLaw.execEmergencyInputChange (hP : VisitLaw P) {active : Bool} (hs : P s)
    (h : execEmergencyInputChange active s = .next t) : P t := by
  refine hP.event (fun s hs => ?_) hs h
  have hinput : P { s with emergency := { s.emergency with input := active } } := hP.of_tables hs rfl rfl rfl rfl rfl
  dsimp only
  split
  · exact hs
  · split
    · exact hP.setLatch hinput
    · exact hinput

/-! ### The events of the print bus -/

/-- The lapse of a timer of the job in progress keeps the laws that its effect keeps (R156, R157). -/
theorem VisitLaw.jobLapse (hP : VisitLaw P) {due : JobPhase → Option Nat} {f : State → Job → State}
    (hf : ∀ s j, Descends s (f s j)) (hs : P s) (h : Machine.event (fun s => s.jobLapse due f) s = .next t) : P t :=
  hP.event (fun _ => jobLapse_keeps (fun _ _ => hP.descends (reach_descends _ _)) fun _ _ => hP.descends (hf _ _)) hs h

theorem setPins_descends (s : State) (p : PrinterId) (x : PrinterPins) : Descends s (s.setPins p x) :=
  setPrinter_descends _ _ _

theorem VisitLaw.execPbusyChange (hP : VisitLaw P) {p : PrinterId} {active : Bool} (hs : P s)
    (h : execPbusyChange p active s = .next t) : P t := by
  refine hP.event (fun s hs => ?_) hs h
  have hpins := hP.descends (setPins_descends s p { (s.printer p).pins with busy := active }) hs
  dsimp only
  split
  · exact hs
  · split
    · split
      · split
        · exact hP.descends (setJob_descends _ _) hpins
        · exact hpins
      · exact hpins
    · exact hpins

theorem VisitLaw.execPfltChange (hP : VisitLaw P) {p : PrinterId} {active : Bool} (hs : P s)
    (h : execPfltChange p active s = .next t) : P t := by
  refine hP.event (fun s hs => ?_) hs h
  have hpins := hP.descends (setPins_descends s p { (s.printer p).pins with fault := active }) hs
  dsimp only
  split
  · exact hs
  · split
    · split
      · exact hP.descends (faultJob_descends _ _ _) hpins
      · exact hpins
    · exact hpins

theorem VisitLaw.execPdoneChange (hP : VisitLaw P) {p : PrinterId} {active : Bool} (hs : P s)
    (h : execPdoneChange p active s = .next t) : P t := by
  refine hP.event (fun s hs => ?_) hs h
  have hpins := hP.descends (setPins_descends s p { (s.printer p).pins with done := active }) hs
  dsimp only
  split
  · exact hs
  · split
    · split
      · split
        · exact hP.descends (finishJob_descends _ _) hpins
        · exact hpins
      · exact hpins
    · exact hpins

/-! ### Every command, every step -/

/-- Every command keeps the laws of the visits. -/
theorem VisitLaw.exec (hP : VisitLaw P) {c : Instr} (hs : P s) (h : exec c s = .next t) : P t := by
  cases c with
  | readDeck | calGet | find | getVehicle | getAccount | getKind | readSession | readPrinters | readNotices | status
  | malformedFrame | cutShortFrame => exact query_keeps hP.linkFree hs h
  | retryCell => exact hP.execRetryCell hs h
  | calPut => exact hP.execCalPut hs h
  | zero => exact hP.execZero hs h
  | seek => exact hP.execSeek hs h
  | walk => exact hP.execWalk hs h
  | amend => exact hP.execAmend hs h
  | cancelVisit => exact hP.execCancelVisit hs h
  | resolveClose => exact hP.execResolveClose hs h
  | resolveDiscard => exact hP.execResolveDiscard hs h
  | collect => exact hP.execCollect hs h
  | setTicketNext => exact hP.execSetTicketNext hs h
  | putVehicle => exact hP.execPutVehicle hs h
  | dropVehicle => exact hP.execDropVehicle hs h
  | setTareFromDeck => exact hP.execSetTareFromDeck hs h
  | putAccount => exact hP.execPutAccount hs h
  | credit => exact hP.execCredit hs h
  | stop => exact hP.accountRequest (fun _ _ => hP.descends (putAccount_descends _ _)) hs h
  | release => exact hP.execRelease hs h
  | dropAccount => exact hP.execDropAccount hs h
  | putKind => exact hP.execPutKind hs h
  | setGate => exact hP.execSetGate hs h
  | raise | lower => exact hP.request (fun _ => hP.hostMove _ _) hs h
  | resetGate => exact hP.execResetGate hs h
  | lock => exact hP.execLock hs h
  | unlock => exact hP.execUnlock hs h
  | readGate => exact hP.execReadGate hs h
  | call => exact hP.execCall hs h
  | manualCapture => exact hP.execManualCapture hs h
  | cancelSession => exact hP.execCancelSession hs h
  | setDeckTimers => exact hP.execSetDeckTimers hs h
  | emergencyRelease => exact hP.execEmergencyRelease hs h
  | quiet => exact hP.execQuiet hs h
  | wake => exact hP.execWake hs h
  | setPrint => exact hP.request (fun _ => hP.descends (setPrinting_descends _ _)) hs h
  | holdPrinter => exact hP.execHoldPrinter hs h
  | releasePrinter => exact hP.execReleasePrinter hs h
  | resumePrinter => exact hP.execResumePrinter hs h
  | redirect => exact hP.execRedirect hs h
  | reprint => exact hP.execReprint hs h
  | takeNotice => exact hP.execTakeNotice hs h
  | dropNotices => exact hP.execDropNotices hs h
  | setNotice => exact hP.execSetNotice hs h
  | setClock => exact hP.execSetClock hs h
  | setSite => exact hP.execSetSite hs h
  | restart => exact hP.execRestart hs h
  | clearTables => exact hP.execClearTables hs h
  | overrun | answerRead => exact selection_keeps hP.linkFree (fun s _ hs => hP.linkFree.link s _ hs) hs h
  | powerOn => exact hP.execPowerOn hs h
  | pinReset => exact hP.event (fun _ => hP.performReset _ _ _) hs h
  | cycleSlot => exact hP.execCycleSlot hs h
  | cellAnswer => exact hP.execCellAnswer hs h
  | answerWindowLapse => exact hP.execAnswerWindowLapse hs h
  | warmUpLapse => exact hP.execWarmUpLapse hs h
  | loopStateChange => exact hP.execLoopStateChange hs h
  | limitSwitchChange => exact hP.execLimitSwitchChange hs h
  | warnTimeLapse | driveLimitLapse | settleTimeLapse => exact hP.event (fun _ => hP.phaseLapse _ _ _) hs h
  | tagFrame => exact hP.execTagFrame hs h
  | callWaitLapse => exact hP.execCallWaitLapse hs h
  | boardTimerLapse => exact hP.execBoardTimerLapse hs h
  | captureTimerLapse => exact hP.execCaptureTimerLapse hs h
  | yardClockAdvance => exact hP.execYardClockAdvance hs h
  | emergencyInputChange => exact hP.execEmergencyInputChange hs h
  | setupTimeLapse => exact hP.jobLapse (fun _ _ => setJob_descends _ _) hs h
  | strobeTimeLapse => exact hP.jobLapse strobeEnd_descends hs h
  | holdTimeLapse => exact hP.jobLapse byteEnd_descends hs h
  | busyWaitLapse | completionLimitLapse => exact hP.jobLapse (fun _ _ => faultJob_descends _ _ _) hs h
  | pbusyChange => exact hP.execPbusyChange hs h
  | pfltChange => exact hP.execPfltChange hs h
  | pdoneChange => exact hP.execPdoneChange hs h
  | mainSupplyLoss => exact hP.descends (execMainSupplyLoss_descends h) hs

/-- Every step keeps the laws of the visits. -/
theorem VisitLaw.step (hP : VisitLaw P) (hs : P s) (h : step s = .next t) : P t :=
  step_keeps (fun _ _ hs => hP.of_tables hs rfl rfl rfl rfl rfl) (fun _ _ hs => hP.of_tables hs rfl rfl rfl rfl rfl)
    (fun _ _ _ => hP.exec) hs h

end Commands

end Sys2Proof.Machine
end

section
/-! PROOFS. Ticket numbers (R49, R64): which numbers CLOSED visits hold, that 128 numbers in a row are never all held while
some slot is not CLOSED, and SET_TICKET_NEXT. -/

namespace Sys2Proof.Machine

theorem isClosed_iff {v : Visit} : v.isClosed = true ↔ ∃ t, v.ticket = some t := by
  unfold Visit.isClosed Visit.ticket
  split <;> simp

/-- A number is held where a CLOSED visit carries it (R49). -/
theorem numberHeld_iff {s : State} {k : Nat} :
    s.numberHeld k = true ↔ ∃ i v t, s.visit i = some v ∧ v.ticket = some t ∧ t.number = k := by
  simp only [State.numberHeld, List.any_eq_true, Option.any_eq_true, Option.bind_eq_some_iff, beq_iff_eq]
  constructor
  · rintro ⟨sl, hsl, t, ⟨v, hv, ht⟩, hk⟩
    obtain ⟨i, hi⟩ := List.getElem?_of_mem hsl
    exact ⟨i, v, t, visit_eq_some_iff.2 ⟨sl, hi, hv⟩, ht, hk⟩
  · rintro ⟨i, v, t, hv, ht, hk⟩
    obtain ⟨sl, hsl, hslv⟩ := visit_eq_some_iff.1 hv
    exact ⟨sl, List.mem_of_getElem? hsl, t, ⟨v, hslv, ht⟩, hk⟩

/-- The numbers that follow one another, 1 after 99,999,999. -/
theorem iterate_nextNumber (n : Nat) {j : Nat} (hj : j ≤ 128) :
    nextNumber^[j] n = if n ≤ 99999999 ∧ 99999999 < n + j then n + j - 99999999 else n + j := by
  induction j with
  | zero => rw [if_neg (by omega)]; rfl
  | succ j ih =>
    rw [Function.iterate_succ_apply', ih (by omega), nextNumber]
    split <;> split <;> split <;> omega

/-- 128 numbers that follow one another are all different. -/
theorem iterate_nextNumber_inj (n : Nat) {i j : Nat} (hi : i < 128) (hj : j < 128)
    (h : nextNumber^[i] n = nextNumber^[j] n) : i = j := by
  rw [iterate_nextNumber n hi.le, iterate_nextNumber n hj.le] at h
  split at h <;> split at h <;> omega

/-- While some slot is not CLOSED, the visits do not hold 128 numbers that follow one another (R49). -/
theorem exists_number_free {s : State} {n : Nat} (hlen : s.register.slots.length = 128) (hn : n < 128)
    (hopen : ∀ v, s.visit n = some v → v.isClosed = false) (k : Nat) :
    ∃ j < 128, s.numberHeld (nextNumber^[j] k) = false := by
  by_contra hall
  have hheld (j : Fin 128) : ∃ i v t, s.visit i = some v ∧ v.ticket = some t ∧ t.number = nextNumber^[j] k := by
    by_contra hfree
    exact hall ⟨j, j.isLt, Bool.eq_false_iff.2 (numberHeld_iff.not.2 hfree)⟩
  choose holder v t hv ht hnumber using hheld
  have hmaps : ∀ j ∈ Finset.univ, holder j ∈ (Finset.range 128).erase n := by
    intro j _
    refine Finset.mem_erase.2 ⟨fun hjn => ?_, Finset.mem_range.2 (hlen ▸ lt_of_visit (hv j))⟩
    have hclosed := hopen _ (hjn ▸ hv j)
    rw [isClosed_iff.2 ⟨_, ht j⟩] at hclosed
    cases hclosed
  have hcard : ((Finset.range 128).erase n).card < (Finset.univ : Finset (Fin 128)).card := by
    rw [Finset.card_univ, Fintype.card_fin, Finset.card_erase_of_mem (Finset.mem_range.2 hn), Finset.card_range]
    omega
  obtain ⟨i, -, j, -, hij, hsame⟩ := Finset.exists_ne_map_eq_of_card_lt_of_maps_to hcard hmaps
  have hvisit : v i = v j := Option.some.inj ((hv i).symm.trans (hsame ▸ hv j))
  have hticket : t i = t j := Option.some.inj ((ht i).symm.trans (hvisit ▸ ht j))
  exact hij (Fin.ext (iterate_nextNumber_inj k i.isLt j.isLt (by rw [← hnumber i, ← hnumber j, hticket])))

/-- The search for a free number passes held numbers alone, and ends on one only with its tests used up (R49). -/
theorem freeNumber_passes (s : State) (fuel n : Nat) :
    ∃ steps ≤ fuel, s.freeNumber fuel n = nextNumber^[steps] n ∧
      (∀ j < steps, s.numberHeld (nextNumber^[j] n) = true) ∧
      (steps < fuel → s.numberHeld (nextNumber^[steps] n) = false) := by
  induction fuel generalizing n with
  | zero => exact ⟨0, le_rfl, rfl, by simp, by simp⟩
  | succ fuel ih =>
    cases hn : s.numberHeld n with
    | false => exact ⟨0, by omega, by simp [State.freeNumber, hn], by simp, fun _ => hn⟩
    | true =>
      obtain ⟨steps, hle, heq, hheld, hfree⟩ := ih (nextNumber n)
      refine ⟨steps + 1, by omega, by simpa [State.freeNumber, hn] using heq, fun j hj => ?_, fun h => hfree (by omega)⟩
      cases j with
      | zero => exact hn
      | succ j => exact hheld j (by omega)

/-- The number of a close is the first free one from the counter on (R49). -/
theorem ticketNumber_first {s : State} {n : Nat} (hlen : s.register.slots.length = 128) (hn : n < 128)
    (hopen : ∀ v, s.visit n = some v → v.isClosed = false) :
    ∃ steps < 128, s.ticketNumber = nextNumber^[steps] s.register.nextTicket ∧ s.numberHeld s.ticketNumber = false ∧
      ∀ j < steps, s.numberHeld (nextNumber^[j] s.register.nextTicket) = true := by
  obtain ⟨free, hfree128, hfree⟩ := exists_number_free hlen hn hopen s.register.nextTicket
  obtain ⟨steps, hle, heq, hheld, hends⟩ := freeNumber_passes s 128 s.register.nextTicket
  have hlt : steps < 128 := by
    by_contra hge
    have hcontra := hheld free (by omega)
    rw [hfree] at hcontra
    cases hcontra
  exact ⟨steps, hlt, heq, by rw [State.ticketNumber, heq]; exact hends hlt, hheld⟩

/-! ### SET_TICKET_NEXT (R64) -/

theorem exec_setTicketNext {s : State} (h : s.listening) (number : BitVec 32) :
    exec (.setTicketNext number) s = .next (
      if ¬ (1 ≤ number.toNat ∧ number.toNat ≤ 99999999) then s.answered Code.setTicketNext .outOfRange
      else if (s.findSlot Visit.isClosed).isSome = true then s.answered Code.setTicketNext .wrongState
      else State.answered { s with register := { s.register with nextTicket := number.toNat } } Code.setTicketNext
        .done) := by
  have hrange : (number.toNat < 1 ∨ 99999999 < number.toNat) ↔ ¬ (1 ≤ number.toNat ∧ number.toNat ≤ 99999999) := by omega
  have hexec : exec (.setTicketNext number) s = execSetTicketNext number s := rfl
  rw [hexec, execSetTicketNext, request_performed _ _ _ h]
  simp only [hrange]
  split
  · rfl
  · split <;> rfl

/-- Settles O22: the first free number within 128 tests, by the pigeonhole principle over the slots; and SET_TICKET_NEXT. -/
theorem ticketCounterGivesFreeNumbers : Obligations.TicketCounterGivesFreeNumbers := by
  constructor
  · intro s n hlen hn hopen held following
    obtain ⟨steps, hlt, heq, hfree, hheld⟩ := ticketNumber_first hlen hn hopen
    refine ⟨steps, hlt, heq, fun hcontra => ?_, fun j hj => numberHeld_iff.1 (hheld j hj)⟩
    rw [numberHeld_iff.2 hcontra] at hfree
    cases hfree
  · intro s number hl bad holds
    have hholds : (s.findSlot Visit.isClosed).isSome = true ↔ holds := findSlot_isSome_iff
    rw [exec_setTicketNext hl]
    exact ⟨fun hbad => by rw [if_pos hbad], fun hbad hh => by rw [if_neg hbad, if_pos (hholds.2 hh)],
      fun hbad hh => by rw [if_neg hbad, if_neg (mt hholds.1 hh)]⟩

end Sys2Proof.Machine
end

section
/-! PROOFS. The laws of the tables, the ticket numbers, retirement and the open visits through every step (R40, R44, R49,
R61, R67, R74). -/

namespace Sys2Proof.Machine

/-- The laws of the tables with those of the ticket numbers and of retirement, which a close needs together: the size of
the register gives it a free number. -/
def RecordLaws (s : State) : Prop := TableLaws s ∧ TicketsUnique s ∧ RetirementLaw s

theorem RecordLaws.descends {s t : State} (hst : Descends s t) (h : RecordLaws s) : RecordLaws t := by
  obtain ⟨⟨hsizes, hvehicles, haccounts⟩, hunique, hretired⟩ := h
  refine ⟨⟨hst.sizes hsizes, hst.vehicles hvehicles, hst.accounts haccounts⟩, ?_, ?_⟩
  · intro i j v w tv tw hv hw htv htw hnumber
    obtain ⟨v', hv', hfv⟩ := hst.visit i v hv
    obtain ⟨w', hw', hfw⟩ := hst.visit j w hw
    obtain ⟨tv', htv', hnv, -⟩ := hfv.ticket tv htv
    obtain ⟨tw', htw', hnw, -⟩ := hfw.ticket tw htw
    exact hunique i j v' w' tv' tw' hv' hw' htv' htw' (by rw [← hnv, ← hnw, hnumber])
  · intro i v tv hv htv hboth
    obtain ⟨v', hv', hfv⟩ := hst.visit i v hv
    obtain ⟨tv', htv', -, hr⟩ := hfv.ticket tv htv
    exact hretired i v' tv' hv' htv' (hr hboth)

/-- A slot that takes a visit which is not CLOSED keeps the laws of the records. -/
theorem RecordLaws.writeUnclosed {s : State} (h : RecordLaws s) (n : Nat) {x : Visit} (hx : x.ticket = none) :
    RecordLaws (s.writeSlot n (some x)) := by
  obtain ⟨⟨⟨hslots, hkinds, hnotices⟩, hvehicles, haccounts⟩, hunique, hretired⟩ := h
  have hbefore {m : Nat} {v : Visit} {t : Ticket} (hv : (s.writeSlot n (some x)).visit m = some v)
      (ht : v.ticket = some t) : s.visit m = some v := by
    rcases visit_writeSlot_cases hv with ⟨-, hxv⟩ | ⟨-, hv⟩
    · obtain rfl := Option.some.inj hxv
      rw [hx] at ht
      cases ht
    · exact hv
  refine ⟨⟨⟨(writeSlot_length _ _ _).trans hslots, hkinds, hnotices⟩, hvehicles, haccounts⟩, ?_, ?_⟩
  · intro i j v w tv tw hv hw htv htw
    exact hunique i j v w tv tw (hbefore hv htv) (hbefore hw htw) htv htw
  · intro i v tv hv htv
    exact hretired i v tv (hbefore hv htv) htv

/-- A close gives its slot a number that no CLOSED visit holds, and a ticket that is not collected (R49, R50). -/
theorem RecordLaws.closes {s : State} {n : Nat} {u : Visit} (v : Visit) (c : Closing) (hu : s.visit n = some u)
    (ho : u.isClosed = false) (h : RecordLaws s) : RecordLaws (s.writeSlot n (some (v.withTicket (s.ticketOf v c)))) := by
  obtain ⟨⟨⟨hslots, hkinds, hnotices⟩, hvehicles, haccounts⟩, hunique, hretired⟩ := h
  have hticket : (v.withTicket (s.ticketOf v c)).ticket = some (s.ticketOf v c) := rfl
  obtain ⟨-, -, -, hfree, -⟩ := ticketNumber_first hslots (hslots ▸ lt_of_visit hu) fun w hw => by
    rw [hu] at hw
    exact Option.some.inj hw ▸ ho
  have hnew {m : Nat} {w : Visit} {t : Ticket} (hw : s.visit m = some w) (ht : w.ticket = some t) :
      t.number ≠ (s.ticketOf v c).number := by
    intro heq
    have hheld : s.numberHeld s.ticketNumber = true := numberHeld_iff.2 ⟨m, w, t, hw, ht, heq⟩
    rw [hfree] at hheld
    cases hheld
  refine ⟨⟨⟨(writeSlot_length _ _ _).trans hslots, hkinds, hnotices⟩, hvehicles, haccounts⟩, ?_, ?_⟩
  · intro i j x y tx ty hx hy htx hty hnumber
    rcases visit_writeSlot_cases hx with ⟨hin, hxv⟩ | ⟨hin, hx⟩ <;>
      rcases visit_writeSlot_cases hy with ⟨hjn, hyv⟩ | ⟨hjn, hy⟩
    · exact hin.trans hjn.symm
    · obtain rfl := Option.some.inj hxv
      obtain rfl := Option.some.inj (hticket.symm.trans htx)
      exact (hnew hy hty hnumber.symm).elim
    · obtain rfl := Option.some.inj hyv
      obtain rfl := Option.some.inj (hticket.symm.trans hty)
      exact (hnew hx htx hnumber).elim
    · exact hunique i j x y tx ty hx hy htx hty hnumber
  · intro i x tx hx htx hboth
    rcases visit_writeSlot_cases hx with ⟨-, hxv⟩ | ⟨-, hx⟩
    · obtain rfl := Option.some.inj hxv
      obtain rfl := Option.some.inj (hticket.symm.trans htx)
      exact absurd hboth.1 (by simp [State.ticketOf])
    · exact hretired i x tx hx htx hboth

theorem recordLaws_visitLaw : VisitLaw RecordLaws where
  descends := RecordLaws.descends
  opens n _ _ _ h := h.writeUnclosed n rfl
  amends _ _ _ hw _ h := h.writeUnclosed _ (by simp [Visit.ticket, Visit.amended, hw])
  closes := RecordLaws.closes

/-- Settles O57: the laws of the records are laws of the visits, which every step keeps. -/
theorem stepKeepsTheTables : Obligations.StepKeepsTheTables :=
  fun _ _ htables htickets hretired hstep => recordLaws_visitLaw.step ⟨htables, htickets, hretired⟩ hstep

/-! ### The open visits (R44) -/

theorem OpenUnique.descends {s t : State} (hst : Descends s t) (h : OpenUnique s) : OpenUnique t := by
  intro i j v w hv hw hov how hsame
  obtain ⟨v', hv', hfv⟩ := hst.visit i v hv
  obtain ⟨w', hw', hfw⟩ := hst.visit j w hw
  refine h i j v' w' hv' hw' (hfv.opened hov) (hfw.opened how) ?_
  rwa [← hfv.plate, ← hfw.plate, ← hfv.tag, ← hfw.tag]

/-- Two visits carry the same plate, or the same tag (R44). -/
def Visit.clashes (v w : Visit) : Prop := v.plate = w.plate ∨ (v.tag.isSome = true ∧ v.tag = w.tag)

/-- A slot that takes a visit which clashes with no open visit of another slot keeps the open visits unique. -/
theorem OpenUnique.write {s : State} (h : OpenUnique s) (n : Nat) {x : Visit}
    (hx : ∀ m w, m ≠ n → s.visit m = some w → w.isOpen = true → x.isOpen = true → ¬ x.clashes w) :
    OpenUnique (s.writeSlot n (some x)) := by
  intro i j v w hv hw hov how hsame
  rcases visit_writeSlot_cases hv with ⟨hin, hxv⟩ | ⟨hin, hv⟩ <;>
    rcases visit_writeSlot_cases hw with ⟨hjn, hxw⟩ | ⟨hjn, hw⟩
  · exact hin.trans hjn.symm
  · obtain rfl := Option.some.inj hxv
    exact (hx j w hjn hw how hov hsame).elim
  · obtain rfl := Option.some.inj hxw
    refine (hx i v hin hv hov how (hsame.imp Eq.symm fun ⟨hsome, htag⟩ => ⟨htag ▸ hsome, htag.symm⟩)).elim
  · exact h i j v w hv hw hov how hsame

/-- No open visit carries the tag or the plate of a call that the entry checks pass (R119). -/
theorem inboundCheck_clears {s : State} {f : CallForm} {o : Opening} (h : s.inboundCheck f = .ok o) {m : Nat} {w : Visit}
    (hw : s.visit m = some w) (how : w.isOpen = true) : w.plate ≠ o.plate ∧ (o.tag.isSome = true → w.tag ≠ o.tag) := by
  have hplate {p : Plate} (hp : ¬ (s.findSlot (Visit.openPlate p)).isSome = true) : w.plate ≠ p := fun heq =>
    hp (findSlot_isSome_iff.2 ⟨m, w, hw, by simp [Visit.openPlate, how, heq]⟩)
  have htag {t : Tag} (ht : ¬ (s.findSlot (Visit.openTag t)).isSome = true) : w.tag ≠ some t := fun heq =>
    ht (findSlot_isSome_iff.2 ⟨m, w, hw, by simp [Visit.openTag, how, heq]⟩)
  unfold State.inboundCheck at h
  split at h
  · split at h
    · cases h
    · split at h
      · cases h
      · next hfree =>
        rw [Bool.or_eq_true, not_or] at hfree
        split at h
        · cases h
        · cases h
          exact ⟨hplate hfree.2, fun _ => htag hfree.1⟩
  · split at h
    · cases h
    · next hfree =>
      split at h
      · cases h
      · cases h
        exact ⟨hplate hfree, fun hsome => by cases hsome⟩
  · cases h

theorem openUnique_visitLaw : VisitLaw OpenUnique where
  descends := OpenUnique.descends
  opens n d clock ho h := by
    refine h.write n fun m w _ hw how _ hclash => ?_
    obtain ⟨hplate, htag⟩ := inboundCheck_clears ho hw how
    exact hclash.elim (fun hp => hplate hp.symm) fun ⟨hsome, ht⟩ => htag hsome ht.symm
  amends {s n v w p} k a hv hst hplate h := by
    refine h.write n fun m x hmn hx hox _ hclash => hmn ?_
    have hov : v.isOpen = true := by simp [Visit.isOpen, hst]
    refine (h n m v x hv hx hov hox (hclash.imp_left fun hp => ?_)).symm
    cases p with
    | none => exact hp
    | some q =>
      by_contra hne
      have hxq : x.plate = q := Eq.symm hp
      have hfound := findSlot_isSome_iff.2 ⟨m, x, hx, show x.openPlate q = true by simp [Visit.openPlate, hox, hxq]⟩
      have hq : q ≠ v.plate := fun hq => hne (hq.symm.trans hxq.symm)
      simp [State.amendPlateFails, hfound, hq] at hplate
  closes v c _ _ h := h.write _ fun _ _ _ _ _ hopen _ => by simp [Visit.isOpen, Visit.withTicket] at hopen

/-- Settles O58: the uniqueness of open visits is a law of the visits, which every step keeps. -/
theorem stepKeepsOpenVisitsUnique : Obligations.StepKeepsOpenVisitsUnique :=
  fun _ _ hopen hstep => openUnique_visitLaw.step hopen hstep

end Sys2Proof.Machine
end

section
/-! PROOFS. Requests on one slot (R55): the examination that every visit request shares, and CANCEL_VISIT, RESOLVE DISCARD
and COLLECT (R57, R59 to R61). -/

namespace Sys2Proof.Machine

/-! ### The examination of a visit request (R55) -/

theorem slotOf_eq {b : Byte} (h : b.toNat < 128) : slotOf b = some b.toNat := if_pos h

theorem slotOf_eq_none {b : Byte} (h : 128 ≤ b.toNat) : slotOf b = none := if_neg (by omega)

theorem visitRequest_outOfRange (s : State) {slot : Byte} (hslot : 128 ≤ slot.toNat) (expected : Option Revision)
    (own : Nat → State × Reply) : s.visitRequest slot expected own = (s, .bare .outOfRange) := by
  rw [State.visitRequest, slotOf_eq_none hslot]

theorem visitRequest_stale {s : State} {slot : Byte} (hslot : slot.toNat < 128) {r : Revision}
    (hr : r ≠ (s.slot slot.toNat).revision) (own : Nat → State × Reply) :
    s.visitRequest slot (some r) own = s.refuseVisit slot.toNat .stale := by
  simp [State.visitRequest, slotOf_eq hslot, hr]

theorem visitRequest_own {s : State} {slot : Byte} (hslot : slot.toNat < 128) {expected : Option Revision}
    (he : expected = none ∨ expected = some (s.slot slot.toNat).revision) (own : Nat → State × Reply) :
    s.visitRequest slot expected own = own slot.toNat := by
  rcases he with rfl | rfl <;> simp [State.visitRequest, slotOf_eq hslot]

/-- A request performed with an outcome and a body: the state it leaves, and the answer (R175). -/
theorem request_answers {kind : Byte} {f : State → State × Reply} {s t : State} {c : ReplyCode} {b : Body}
    (h : s.listening) (hf : f s = (t, { code := c, body := b })) : request kind f s = .next (t.answered kind c b) := by
  rw [request_performed kind f s h, hf]
  rfl

section Examined

variable {s t : State} {kind slot : Byte} {expected : Option Revision} {own : State → Nat → State × Reply}

/-- A visit request on a slot that does not exist (R55 step 1). -/
theorem visitRequest_noSlot (h : s.listening) (hslot : 128 ≤ slot.toNat) :
    request kind (fun s => s.visitRequest slot expected (own s)) s = .next (s.answered kind .outOfRange) :=
  request_bare h (visitRequest_outOfRange s hslot _ _)

/-- A visit request that expects another revision (R55 step 2). -/
theorem visitRequest_otherRevision (h : s.listening) (hslot : slot.toNat < 128)
    (hr : ∃ r, expected = some r ∧ r ≠ (s.slot slot.toNat).revision) :
    request kind (fun s => s.visitRequest slot expected (own s)) s =
      .next (s.answered kind .stale (.revision (s.slot slot.toNat).revision)) := by
  obtain ⟨r, rfl, hr⟩ := hr
  exact request_answers h (visitRequest_stale hslot hr _)

/-- A visit request whose slot and revision pass: its own part answers (R55 step 3). -/
theorem visitRequest_answers {c : ReplyCode} {b : Body} (h : s.listening) (hslot : slot.toNat < 128)
    (he : expected = none ∨ expected = some (s.slot slot.toNat).revision)
    (hown : own s slot.toNat = (t, { code := c, body := b })) :
    request kind (fun s => s.visitRequest slot expected (own s)) s = .next (t.answered kind c b) :=
  request_answers h ((visitRequest_own hslot he _).trans hown)

end Examined

/-! ### A visit that leaves its slot or changes in it (R40) -/

/-- The DONE answer of a request that changed the slot (R40, R55). -/
theorem doneVisit_writeSlot {s : State} {n : Nat} {u : Visit} (hu : s.visit n = some u) {x : Option Visit}
    (hx : some u ≠ x) : (s.writeSlot n x).doneVisit n =
      ({ s with register := { s.register with slots := s.register.slots.set n ⟨(s.slot n).revision + 1, x⟩ } },
        .done (.revision ((s.slot n).revision + 1))) := by
  have hne : s.visit n ≠ x := hu ▸ hx
  rw [State.doneVisit, revision_writeSlot (lt_of_visit hu), if_neg hne, writeSlot_of_ne hne]

/-- The same with an on-site count that falls (R75). -/
theorem doneVisit_freed {s : State} {n : Nat} {u : Visit} (hu : s.visit n = some u) (a : Option AccountNo) :
    ((s.writeSlot n none).countDown a).doneVisit n =
      ({ s with
          register := { s.register with slots := s.register.slots.set n ⟨(s.slot n).revision + 1, none⟩ }
          accounts := s.accounts.map fun x => if a = some x.number then { x with count := x.count - 1 } else x },
        .done (.revision ((s.slot n).revision + 1))) := by
  have hne : s.visit n ≠ none := by simp [hu]
  have hrevision : (((s.writeSlot n none).countDown a).slot n).revision = (s.slot n).revision + 1 := by
    rw [countDown_eq]
    exact (revision_writeSlot (lt_of_visit hu) none).trans (if_neg hne)
  rw [State.doneVisit, hrevision, countDown_eq, writeSlot_of_ne hne]

section Leaving

variable {s : State} {slot : Byte} {expected : Option Revision}

/-- A ticket that a COLLECT finds PRINTED or NOT_REQUIRED retires; another is marked collected (R60, R61). -/
theorem afterTicket_collected (v : Visit) (t : Ticket) :
    v.afterTicket { t with collected := true } =
      if t.mark = .printed ∨ t.mark = .notRequired then none
      else some { v with state := .closed { t with collected := true } } := by
  simp [Visit.afterTicket, Ticket.settled, Visit.withTicket]

theorem exec_cancelVisit (h : s.listening) (hslot : slot.toNat < 128)
    (he : expected = none ∨ expected = some (s.slot slot.toNat).revision) :
    exec (.cancelVisit slot expected) s = .next (
      match s.visit slot.toNat with
      | some v => match v.state with
        | .onSite _ => State.answered
            { s with
              register := { s.register with
                slots := s.register.slots.set slot.toNat ⟨(s.slot slot.toNat).revision + 1, none⟩ }
              accounts := s.accounts.map fun a =>
                if v.account = some a.number then { a with count := a.count - 1 } else a }
            Code.cancelVisit .done (.revision ((s.slot slot.toNat).revision + 1))
        | _ => s.answered Code.cancelVisit .wrongState (.revision (s.slot slot.toNat).revision)
      | none => s.answered Code.cancelVisit .wrongState (.revision (s.slot slot.toNat).revision)) := by
  have hexec : exec (.cancelVisit slot expected) s = execCancelVisit slot expected s := rfl
  rw [hexec]
  cases hv : s.visit slot.toNat with
  | none => exact visitRequest_answers h hslot he (by simp only [hv]; rfl)
  | some v =>
    dsimp only
    cases hst : v.state with
    | onSite w => exact visitRequest_answers h hslot he (by simp only [hv, hst]; exact doneVisit_freed hv _)
    | arriving | departing | held | closed =>
      exact visitRequest_answers h hslot he (by simp only [hv, hst]; rfl)

theorem exec_resolveDiscard (h : s.listening) (hslot : slot.toNat < 128)
    (he : expected = none ∨ expected = some (s.slot slot.toNat).revision) :
    exec (.resolveDiscard slot expected) s = .next (
      match s.visit slot.toNat with
      | some v => match v.state with
        | .held _ _ _ _ => State.answered
            { s with register := { s.register with
                slots := s.register.slots.set slot.toNat ⟨(s.slot slot.toNat).revision + 1, none⟩ } }
            Code.resolve .done (.revision ((s.slot slot.toNat).revision + 1))
        | _ => s.answered Code.resolve .wrongState (.revision (s.slot slot.toNat).revision)
      | none => s.answered Code.resolve .wrongState (.revision (s.slot slot.toNat).revision)) := by
  have hexec : exec (.resolveDiscard slot expected) s = execResolveDiscard slot expected s := rfl
  rw [hexec]
  cases hv : s.visit slot.toNat with
  | none => exact visitRequest_answers h hslot he (by simp only [hv]; rfl)
  | some v =>
    dsimp only
    cases hst : v.state with
    | held =>
      exact visitRequest_answers h hslot he (by simp only [hv, hst]; exact doneVisit_writeSlot hv (Option.some_ne_none v))
    | arriving | onSite | departing | closed =>
      exact visitRequest_answers h hslot he (by simp only [hv, hst]; rfl)

/-- The own part of a COLLECT on a CLOSED visit (R60, R61). -/
theorem collect_closed {n : Nat} {v : Visit} {t : Ticket} (hv : s.visit n = some v) (ht : v.state = .closed t) :
    (s.writeSlot n (v.afterTicket { t with collected := true })).doneVisit n =
      if t.mark = .printed ∨ t.mark = .notRequired then
        ({ s with register := { s.register with slots := s.register.slots.set n ⟨(s.slot n).revision + 1, none⟩ } },
          .done (.revision ((s.slot n).revision + 1)))
      else if t.collected = true then (s, .done (.revision (s.slot n).revision))
      else ({ s with register := { s.register with
            slots := s.register.slots.set n
              ⟨(s.slot n).revision + 1, some { v with state := .closed { t with collected := true } }⟩ } },
          .done (.revision ((s.slot n).revision + 1))) := by
  rw [afterTicket_collected]
  split
  · exact doneVisit_writeSlot hv (Option.some_ne_none v)
  · split
    · next hcollected =>
      have hsame : { v with state := .closed { t with collected := true } } = v := by rw [← hcollected, ← ht]
      rw [hsame, writeSlot_self hv]
      rfl
    · next hcollected =>
      refine doneVisit_writeSlot hv fun hsame => hcollected ?_
      have hstate := congrArg Visit.state (Option.some.inj hsame)
      rw [ht] at hstate
      exact congrArg Ticket.collected (VisitState.closed.inj hstate)

theorem exec_collect (h : s.listening) (hslot : slot.toNat < 128)
    (he : expected = none ∨ expected = some (s.slot slot.toNat).revision) :
    exec (.collect slot expected) s = .next (
      match s.visit slot.toNat with
      | some v => match v.state with
        | .closed t =>
          if t.mark = .printed ∨ t.mark = .notRequired then
            State.answered
              { s with register := { s.register with
                  slots := s.register.slots.set slot.toNat ⟨(s.slot slot.toNat).revision + 1, none⟩ } }
              Code.collect .done (.revision ((s.slot slot.toNat).revision + 1))
          else if t.collected = true then s.answered Code.collect .done (.revision (s.slot slot.toNat).revision)
          else State.answered
              { s with register := { s.register with
                  slots := s.register.slots.set slot.toNat
                    ⟨(s.slot slot.toNat).revision + 1, some { v with state := .closed { t with collected := true } }⟩ } }
              Code.collect .done (.revision ((s.slot slot.toNat).revision + 1))
        | _ => s.answered Code.collect .wrongState (.revision (s.slot slot.toNat).revision)
      | none => s.answered Code.collect .wrongState (.revision (s.slot slot.toNat).revision)) := by
  have hexec : exec (.collect slot expected) s = execCollect slot expected s := rfl
  rw [hexec]
  cases hv : s.visit slot.toNat with
  | none => exact visitRequest_answers h hslot he (by simp only [hv]; rfl)
  | some v =>
    dsimp only
    cases ht : v.state with
    | closed t =>
      have hown := collect_closed hv ht
      dsimp only
      split at hown
      · next hm => rw [if_pos hm]; exact visitRequest_answers h hslot he (by simp only [hv, ht]; exact hown)
      · next hm =>
        rw [if_neg hm]
        split at hown
        · next hc => rw [if_pos hc]; exact visitRequest_answers h hslot he (by simp only [hv, ht]; exact hown)
        · next hc => rw [if_neg hc]; exact visitRequest_answers h hslot he (by simp only [hv, ht]; exact hown)
    | arriving | onSite | departing | held =>
      exact visitRequest_answers h hslot he (by simp only [hv, ht]; rfl)

end Leaving

/-- Settles O18: the shared examination of every visit request, then the three requests by the state of the visit. -/
theorem visitRequestsAndLeaving : Obligations.VisitRequestsAndLeaving := by
  constructor
  · intro s slot expected c kind h hc
    rcases hc with ⟨rfl, k, p, a, rfl⟩ | ⟨rfl, rfl⟩ | ⟨rfl, a, t, n, rfl⟩ | ⟨rfl, rfl⟩ | ⟨rfl, rfl⟩ | ⟨rfl, t, rfl⟩ |
      ⟨rfl, rfl⟩ <;> exact ⟨visitRequest_noSlot h, visitRequest_otherRevision h⟩
  · intro s slot expected h hslot he
    exact ⟨exec_cancelVisit h hslot he, exec_resolveDiscard h hslot he, exec_collect h hslot he⟩

end Sys2Proof.Machine
end

section
/-! PROOFS. The close (R49 to R51, R86, R87): the debit of an account, the lookups in the tables after a write, the stored
tare, and what a close writes. -/

namespace Sys2Proof.Machine

/-! ### Lookups after a write (R67, R74) -/

/-- An insertion in key order is found under its own key and leaves the lookups of the other keys. -/
theorem find?_insertBy {α : Type} (key : α → Nat) (x : α) (k : Nat) (l : List α) :
    (insertBy key x l).find? (fun y => key y == k) = if k = key x then some x else l.find? fun y => key y == k := by
  induction l with
  | nil =>
    by_cases hk : k = key x
    · simp [insertBy, hk]
    · simp [insertBy, hk, Ne.symm hk]
  | cons y ys ih =>
    unfold insertBy
    by_cases hk : k = key x
    · rw [if_pos hk]
      split
      · simp [hk]
      · split
        · simp [hk]
        · next hne => rw [List.find?_cons_of_neg (by simpa [hk] using Ne.symm hne), ih, if_pos hk]
    · rw [if_neg hk]
      split
      · rw [List.find?_cons_of_neg (by simpa using Ne.symm hk)]
      · split
        · next heq =>
          rw [List.find?_cons_of_neg (by simpa using Ne.symm hk),
            List.find?_cons_of_neg (by simpa [← heq] using Ne.symm hk)]
        · rw [List.find?_cons, List.find?_cons, ih, if_neg hk]

theorem tag_eq_iff (a b : Tag) : (a == b) = (a.toNat == b.toNat) := by
  rw [Bool.eq_iff_iff, beq_iff_eq, beq_iff_eq, BitVec.toNat_inj]

/-- The entry of a tag after an entry was written (R70). -/
theorem vehicle_putVehicle (s : State) (e : Vehicle) (g : Tag) :
    (s.putVehicle e).vehicle g = if g = e.tag then some e else s.vehicle g := by
  simp only [State.vehicle, State.putVehicle, tag_eq_iff, find?_insertBy, ← BitVec.toNat_inj]

theorem tag_of_vehicle {s : State} {g : Tag} {e : Vehicle} (h : s.vehicle g = some e) : e.tag = g := by
  simpa using List.find?_some h

theorem number_of_account {s : State} {n : AccountNo} {a : Account} (h : s.account n = some a) : a.number = n := by
  simpa using List.find?_some h

/-- An account read after the accounts were changed but for their numbers. -/
theorem account_of_map {s t : State} {f : Account → Account} (ht : t.accounts = s.accounts.map f)
    (hf : ∀ a, (f a).number = a.number) (n : AccountNo) : t.account n = (s.account n).map f := by
  rw [State.account, ht, List.find?_map]
  simp only [Function.comp_def, hf]
  rfl

/-! ### The debit (R74, R87) -/

/-- The balance after a debit, saturated (R74). -/
def Account.balanceLess (a : Account) (amount : Nat) : Int := saturate (a.balance - amount)

/-- A debit stops an ACTIVE account whose balance it brings to its floor (R74, R87). -/
def Account.stoppedBy (a : Account) (amount : Nat) : Prop := a.state = .active ∧ a.balanceLess amount ≤ a.floor

theorem debit_eq (a : Account) (amount : Nat) : a.debit amount =
    { a with
      balance := a.balanceLess amount
      state := if a.state = .active ∧ a.balanceLess amount ≤ a.floor then .stoppedAuto else a.state } := by
  unfold Account.debit Account.settle Account.balanceLess
  cases hst : a.state with
  | active =>
    dsimp only
    split <;> simp_all
  | stoppedAuto | stoppedHold => simp

theorem stops_debit_iff (a : Account) (amount : Nat) :
    a.stops (a.debit amount) = true ↔ a.stoppedBy amount := by
  rw [debit_eq, Account.stops, Account.stoppedBy]
  cases hst : a.state <;> simp

/-- An account after the debit of a visit that may carry it (R50, R87). -/
def Account.debitedFor (v : Visit) (amount : Nat) (a : Account) : Account :=
  if v.account = some a.number then a.debit amount else a

/-- The debit of a visit, with its ACCOUNT_STOPPED, as an update of the accounts and the notices (R50, R87). -/
theorem debitVisit_eq (s : State) (v : Visit) (amount : Nat) : s.debitVisit v amount =
    { s with
      accounts := s.accounts.map fun a => a.debitedFor v amount
      notices := (s.debitVisit v amount).notices } := by
  have habsent (n : AccountNo) (hn : s.account n = none) (a : Account) (ha : a ∈ s.accounts) : a.number ≠ n := by
    simpa using List.find?_eq_none.1 hn a ha
  unfold State.debitVisit
  cases hv : v.account with
  | none => simp [Account.debitedFor, hv]
  | some n =>
    unfold State.debit
    dsimp only
    cases hn : s.account n with
    | none =>
      have hsame : s.accounts.map (fun a => a.debitedFor v amount) = s.accounts :=
        List.map_congr_left (fun a ha => if_neg fun heq => habsent n hn a ha (Option.some.inj (hv.symm.trans heq)).symm)
          |>.trans (List.map_id _)
      rw [hsame]
    | some a =>
      dsimp only
      split <;> simp [State.changeAccount, State.raise, Account.debitedFor, hv, eq_comm]

/-- ACCOUNT_STOPPED of the debit that stops the visit's account (R87). -/
theorem debitVisit_stops {s : State} {v : Visit} {amount : Nat} {a : AccountNo} {x : Account} (hv : v.account = some a)
    (hx : s.account a = some x) (hstop : x.stoppedBy amount) :
    (s.debitVisit v amount).notices = (s.raise .accountStopped (.account a)).notices := by
  simp only [State.debitVisit, hv, State.debit, hx, if_pos ((stops_debit_iff x amount).2 hstop)]
  rfl

/-- A debit that stops no account raises nothing (R87). -/
theorem debitVisit_stops_none {s : State} {v : Visit} {amount : Nat}
    (h : ∀ a x, v.account = some a → s.account a = some x → ¬ x.stoppedBy amount) :
    (s.debitVisit v amount).notices = s.notices := by
  unfold State.debitVisit
  split
  · next a hv =>
    unfold State.debit
    split
    · rfl
    · next x hx =>
      dsimp only
      rw [if_neg ((stops_debit_iff x amount).not.2 (h a x hv hx))]
      rfl
  · rfl

/-- A debit raises no other notice (R87). -/
theorem debitVisit_notice (s : State) (v : Visit) (amount : Nat) {i : Nat} (hi : i ≠ 10) :
    (s.debitVisit v amount).notices[i]? = s.notices[i]? := by
  by_cases h : ∃ a x, v.account = some a ∧ s.account a = some x ∧ x.stoppedBy amount
  · obtain ⟨a, x, hv, hx, hstop⟩ := h
    rw [debitVisit_stops hv hx hstop, getElem?_raise]
    simp [NoticeKind.order, Ne.symm hi]
  · rw [debitVisit_stops_none fun a x hv hx hstop => h ⟨a, x, hv, hx, hstop⟩]

/-! ### The stored tare (R51) -/

theorem autoTare_eq (s : State) (v : Visit) (t : Ticket) :
    s.autoTare v t = { s with vehicles := (s.autoTare v t).vehicles } := by
  unfold State.autoTare
  split
  · split <;> rfl
  · rfl

theorem setsTare_iff (v : Visit) (t : Ticket) : v.setsTare t = true ↔
    v.direction = .deliver ∧ v.onePass = false ∧ t.adjusted = false ∧ t.second.origin = .deck := by
  simp [Visit.setsTare, and_assoc]

/-- Auto-tare of the visit's vehicle (R51). -/
theorem autoTare_sets {s : State} {v : Visit} {t : Ticket} {g : Tag} {e : Vehicle} (hg : v.tag = some g)
    (he : s.vehicle g = some e) (hv : v.setsTare t = true) (ha : e.autoTare = true) :
    s.autoTare v t = s.putVehicle
      { e with tare := some ⟨t.second.weight.toNat, dayOf s.service.clock, t.second.deck⟩ } := by
  simp [State.autoTare, hg, he, hv, ha]

/-- A close without auto-tare leaves the vehicles (R51). -/
theorem autoTare_leaves {s : State} {v : Visit} {t : Ticket}
    (h : ¬ (v.setsTare t = true ∧ ∃ e g, v.tag = some g ∧ s.vehicle g = some e ∧ e.autoTare = true)) :
    s.autoTare v t = s := by
  unfold State.autoTare
  split
  · next e he =>
    obtain ⟨g, hg, hge⟩ := Option.bind_eq_some_iff.1 he
    refine if_neg fun hboth => h ?_
    rw [Bool.and_eq_true] at hboth
    exact ⟨hboth.1, e, g, hg, hge, hboth.2⟩
  · rfl

/-- Auto-tare leaves the entries of the other tags (R51). -/
theorem vehicle_autoTare_of_ne (s : State) {v : Visit} (t : Ticket) {g : Tag} (hg : v.tag ≠ some g) :
    (s.autoTare v t).vehicle g = s.vehicle g := by
  unfold State.autoTare
  split
  · next e he =>
    obtain ⟨g', hg', hge⟩ := Option.bind_eq_some_iff.1 he
    split
    · rw [vehicle_putVehicle, if_neg]
      rintro rfl
      exact hg (by rw [hg']; exact congrArg some (tag_of_vehicle hge).symm)
    · rfl
  · rfl

/-! ### What a close writes (R49 to R51) -/

/-- An account after a close of a visit that may carry it: debited, and counted down where the visit was open (R75, R87). -/
def Account.afterClose (v : Visit) (fromOpen : Bool) (amount : Nat) (a : Account) : Account :=
  if v.account = some a.number then
    { a.debit amount with count := if fromOpen = true then a.count - 1 else a.count }
  else a

theorem afterClose_number (v : Visit) (fromOpen : Bool) (amount : Nat) (a : Account) :
    (a.afterClose v fromOpen amount).number = a.number := by
  unfold Account.afterClose
  split
  · exact debit_number a amount
  · rfl

theorem debit_count (a : Account) (amount : Nat) : (a.debit amount).count = a.count := by rw [debit_eq]

/-- The register after a close has written its ticket and moved the counter (R49, R50). -/
def State.numbered (s : State) (n : Nat) (v : Visit) (c : Closing) : State :=
  let s1 := s.writeSlot n (some (v.withTicket (s.ticketOf v c)))
  { s1 with register := { s1.register with nextTicket := nextNumber s.ticketNumber } }

/-- The accounts after a close: the debit, and the count where the visit was open (R50, R75). -/
def State.charged (s : State) (v : Visit) (c : Closing) (amount : Nat) : State :=
  if c.fromOpen then (s.debitVisit v amount).countDown v.account else s.debitVisit v amount

theorem closeRecord_steps (s : State) (n : Nat) (v : Visit) (c : Closing) : s.closeRecord n v c =
    (((s.numbered n v c).charged v c (s.ticketOf v c).charge).raise .collectWaiting (.slot n)).autoTare v
      (s.ticketOf v c) := rfl

theorem charged_eq (s : State) (v : Visit) (c : Closing) (amount : Nat) : s.charged v c amount =
    { s with
      accounts := s.accounts.map fun a => a.afterClose v c.fromOpen amount
      notices := (s.debitVisit v amount).notices } := by
  unfold State.charged
  rw [debitVisit_eq]
  have hmap (f : Account → Account) (hf : ∀ a, f a = a.afterClose v c.fromOpen amount) :
      s.accounts.map f = s.accounts.map fun a => a.afterClose v c.fromOpen amount := by rw [funext hf]
  split
  · next hopen =>
    rw [countDown_eq, ← hmap]
    · simp only [List.map_map]
      rfl
    · intro a
      simp only [Function.comp_apply, Account.afterClose, hopen, if_true, Account.debitedFor]
      split <;> simp_all [debit_count, debit_number]
  · next hopen =>
    rw [← hmap]
    intro a
    simp only [Account.afterClose, hopen, Account.debitedFor]
    split
    · rw [debit_eq]; rfl
    · rfl

/-- A debit raises the same notices where the accounts and the notices are the same. -/
theorem debitVisit_notices_congr {s t : State} (ha : t.accounts = s.accounts) (hn : t.notices = s.notices) (v : Visit)
    (amount : Nat) : (t.debitVisit v amount).notices = (s.debitVisit v amount).notices := by
  unfold State.debitVisit
  split
  · unfold State.debit State.account
    rw [ha]
    split
    · exact hn
    · dsimp only
      split
      · exact congrArg (List.modify · _ _) hn
      · exact hn
  · exact hn

/-- Auto-tare writes the same entry where the vehicles and the clock are the same. -/
theorem autoTare_vehicles_congr {s t : State} (hv : t.vehicles = s.vehicles) (hs : t.service = s.service) (v : Visit)
    (k : Ticket) : (t.autoTare v k).vehicles = (s.autoTare v k).vehicles := by
  have hlookup : t.vehicle = s.vehicle := funext fun g => congrArg (List.find? _) hv
  unfold State.autoTare
  rw [hlookup, hs]
  split
  · split
    · exact congrArg (insertBy _ _) hv
    · exact hv
  · exact hv

/-- A close as one update of the register, the tables and the notices (R49 to R51). -/
theorem closeRecord_eq (s : State) (n : Nat) (v : Visit) (c : Closing) : s.closeRecord n v c =
    { s with
      register := (s.numbered n v c).register
      vehicles := (s.autoTare v (s.ticketOf v c)).vehicles
      accounts := s.accounts.map fun a => a.afterClose v c.fromOpen (s.ticketOf v c).charge
      notices := ((s.debitVisit v (s.ticketOf v c).charge).raise .collectWaiting (.slot n)).notices } := by
  rw [closeRecord_steps, charged_eq, debitVisit_notices_congr (t := s.numbered n v c) (s := s) rfl rfl, autoTare_eq,
    autoTare_vehicles_congr (s := s)]
  all_goals rfl

/-- The slot of a close holds the visit with its ticket, one revision on (R40, R50). -/
theorem slot_closeRecord {s : State} {n : Nat} {u : Visit} (hu : s.visit n = some u) (ho : u.isClosed = false) (v : Visit)
    (c : Closing) :
    (s.closeRecord n v c).slot n = ⟨(s.slot n).revision + 1, some (v.withTicket (s.ticketOf v c))⟩ := by
  have hne : (s.slot n).visit ≠ some (v.withTicket (s.ticketOf v c)) := by
    intro heq
    have hsame := Option.some.inj (hu.symm.trans heq)
    rw [hsame] at ho
    cases ho
  rw [closeRecord_eq, ← slotWrite_of_ne hne]
  exact (slot_writeSlot s n n _ (lt_of_visit hu)).trans (if_pos rfl)

/-- A close leaves the other slots (R50). -/
theorem slot_closeRecord_of_ne (s : State) {n m : Nat} (h : m ≠ n) (v : Visit) (c : Closing) :
    (s.closeRecord n v c).slot m = s.slot m := by
  rw [closeRecord_eq]
  exact slot_writeSlot_of_ne h _

/-- The entry of a vehicle after a close is that after the auto-tare (R51). -/
theorem vehicle_closeRecord (s : State) (n : Nat) (v : Visit) (c : Closing) (g : Tag) :
    (s.closeRecord n v c).vehicle g = (s.autoTare v (s.ticketOf v c)).vehicle g := by
  rw [closeRecord_eq]
  rfl

/-- The account of a number after a close (R50, R75, R87). -/
theorem account_closeRecord (s : State) (n : Nat) (v : Visit) (c : Closing) (a : AccountNo) :
    (s.closeRecord n v c).account a = (s.account a).map (Account.afterClose v c.fromOpen (s.ticketOf v c).charge) := by
  rw [closeRecord_eq]
  exact account_of_map rfl (afterClose_number v _ _) a

/-- A notice line after a close, from that after the debit (R87, R167). -/
theorem notice_closeRecord (s : State) (n : Nat) (v : Visit) (c : Closing) (i : Nat) :
    (s.closeRecord n v c).notices[i]? = (((s.debitVisit v (s.ticketOf v c).charge).notices[i]?).map fun l =>
      if 13 = i then l.take (.slot n) else l) := by
  rw [closeRecord_eq]
  exact getElem?_raise _ _ _ _

theorem take_enabled {l : NoticeLine} (h : l.enable = true) (x : Detail) : l.take x = { l with detail := some x } :=
  if_pos h

/-- Settles O21: the fields of a close one by one, from its equation. -/
theorem closeWritesTheTicket : Obligations.CloseWritesTheTicket := by
  intro s n v u c hu ho number k amount debited ticket setsTare t
  have hsets : v.setsTare (s.ticketOf v c) = true ↔ setsTare := setsTare_iff v _
  have hother {i : Nat} (hi : i ≠ 13) : t.notices[i]? = (s.debitVisit v amount).notices[i]? := by
    rw [show t.notices[i]? = _ from notice_closeRecord s n v c i]
    simp only [if_neg (Ne.symm hi), Option.map_id']
    rfl
  have hclose : t = _ := closeRecord_eq s n v c
  refine ⟨slot_closeRecord hu ho v c, fun m hm => slot_closeRecord_of_ne s hm v c, ?_, ?_, ?_, ?_, ?_, ?_, ?_, ?_, ?_, ?_,
    ?_⟩
  · rw [hclose]
    rfl
  · rw [hclose]
    rfl
  · intro a
    rw [show t.account a = _ from account_closeRecord s n v c a]
    refine Option.map_congr fun x hx => ?_
    obtain rfl : x.number = a := number_of_account hx
    rw [Account.afterClose, debit_eq]
    rfl
  · intro e g hg he htare ha
    rw [show t.vehicle g = _ from vehicle_closeRecord s n v c g, autoTare_sets hg he (hsets.2 htare) ha, vehicle_putVehicle,
      if_pos (tag_of_vehicle he).symm]
    rfl
  · intro hnot
    have hleaves : s.autoTare v (s.ticketOf v c) = s := autoTare_leaves fun h => hnot ⟨hsets.1 h.1, h.2⟩
    rw [hclose, hleaves]
  · intro g' hg'
    exact (vehicle_closeRecord s n v c g').trans (vehicle_autoTare_of_ne s _ hg')
  · intro l hl henable
    rw [show t.notices[13]? = _ from notice_closeRecord s n v c 13, debitVisit_notice s v _ (by decide), hl]
    simp [take_enabled henable]
  · intro l a x hl henable hv hx hactive hfloor
    rw [hother (by decide), debitVisit_stops hv hx ⟨hactive, hfloor⟩, getElem?_raise, hl]
    simp [NoticeKind.order, take_enabled henable]
  · intro hnone
    rw [hother (by decide), debitVisit_stops_none hnone]
  · intro i h13 h10
    rw [hother h13, debitVisit_notice s v _ h10]
  · rw [hclose]
    exact ⟨rfl, rfl, rfl, rfl, rfl, rfl, rfl, rfl, rfl, rfl, rfl⟩

end Sys2Proof.Machine
end

section
/-! PROOFS. RESOLVE CLOSE and AMEND (R56, R58, R75): the checks in their order, the close, and the changed visit. -/

namespace Sys2Proof.Machine

/-! ### RESOLVE CLOSE (R58) -/

/-- A close of a visit that is not CLOSED, answered with the revision its own write gave (R154; log 13). -/
theorem doneAndServe_closeRecord {s : State} {n : Nat} {u : Visit} (hu : s.visit n = some u) (ho : u.isClosed = false)
    (v : Visit) (c : Closing) : (s.closeRecord n v c).doneAndServe n =
      ((s.closeRecord n v c).serveBus, .done (.revision ((s.slot n).revision + 1))) := by
  rw [State.doneAndServe, slot_closeRecord hu ho]

/-- The held checks pass at 20 times the larger division and above (R48). -/
theorem heldReason_eq_none_iff {net : Int} {eMax : Nat} : heldReason net eMax = none ↔ ¬ net < 20 * (eMax : Int) := by
  unfold heldReason
  split
  · simp only [reduceCtorEq, false_iff, not_not]
    omega
  · split <;> simp_all

theorem eMax_cast (s : State) (a b : Weighing) :
    (s.eMax a b : Int) = max ((s.deck a.deck).division : Int) (s.deck b.deck).division := by
  simp [State.eMax]

section Resolve

variable {s : State} {n : Nat} {v : Visit} {first second : Weighing} {target : Byte} {p : Option PrinterId}

theorem resolveClose_override (hv : s.visit n = some v) (ho : v.isClosed = false) (hp : targetOf target = some p)
    {x : BitVec 32} (hx : 0 ≤ x.toInt ∧ x.toInt ≤ 200000) :
    s.resolveClose n v first second target (some x) =
      ((s.closeRecord n v ⟨first, second, x.toInt, true, p, false⟩).serveBus,
        .done (.revision ((s.slot n).revision + 1))) := by
  have hcast : (x.toInt.toNat : Int) = x.toInt := Int.toNat_of_nonneg hx.1
  simp only [State.resolveClose, hp, overrideOf, if_pos hx, hcast, doneAndServe_closeRecord hv ho]

theorem resolveClose_badOverride (hp : targetOf target = some p) {x : BitVec 32}
    (hx : ¬ (0 ≤ x.toInt ∧ x.toInt ≤ 200000)) :
    s.resolveClose n v first second target (some x) = s.refuseVisit n .outOfRange := by
  simp only [State.resolveClose, hp, overrideOf, if_neg hx]

theorem resolveClose_held (hp : targetOf target = some p)
    (hk : netOf v.direction first second < 20 * (s.eMax first second : Int)) :
    s.resolveClose n v first second target none = s.refuseVisit n .wrongState := by
  unfold State.resolveClose
  simp only [hp]
  split
  · rfl
  · next hnone => exact (heldReason_eq_none_iff.1 hnone hk).elim

theorem resolveClose_closes (hv : s.visit n = some v) (ho : v.isClosed = false) (hp : targetOf target = some p)
    (hk : ¬ netOf v.direction first second < 20 * (s.eMax first second : Int)) :
    s.resolveClose n v first second target none =
      ((s.closeRecord n v ⟨first, second, netOf v.direction first second, false, p, false⟩).serveBus,
        .done (.revision ((s.slot n).revision + 1))) := by
  simp only [State.resolveClose, hp, heldReason_eq_none_iff.2 hk, doneAndServe_closeRecord hv ho]

end Resolve

/-- Settles O20: by the state of the visit, the action, the target and the override. -/
theorem resolveClosesHeldVisits : Obligations.ResolveClosesHeldVisits := by
  intro s slot expected action target net h hslot he haction
  dsimp only
  have hexec : exec (.resolveClose slot expected action target net) s =
    execResolveClose slot expected action target net s := rfl
  rw [hexec]
  cases hv : s.visit slot.toNat with
  | none => exact visitRequest_answers h hslot he (by simp only [hv]; rfl)
  | some v =>
    dsimp only
    cases hst : v.state with
    | arriving | onSite | departing | closed => exact visitRequest_answers h hslot he (by simp only [hv, hst]; rfl)
    | held first second k r =>
      dsimp only
      have ho : v.isClosed = false := by simp [Visit.isClosed, hst]
      by_cases hclose : action = 1
      · rw [if_neg (not_not.2 hclose)]
        have hown {t : State} {c : ReplyCode} {b : Body}
            (hr : s.resolveClose slot.toNat v first second target net = (t, { code := c, body := b })) :
            execResolveClose slot expected action target net s = .next (t.answered Code.resolve c b) :=
          visitRequest_answers h hslot he (by simp only [hv, hst, if_pos hclose]; exact hr)
        cases hp : targetOf target with
        | none => exact hown (by simp only [State.resolveClose, hp]; rfl)
        | some p =>
          dsimp only
          cases net with
          | some x =>
            dsimp only
            split
            · next hx => exact hown (resolveClose_override hv ho hp hx)
            · next hx => exact hown (resolveClose_badOverride hp hx)
          | none =>
            simp only [← eMax_cast]
            by_cases hk : netOf v.direction first second < 20 * (s.eMax first second : Int)
            · exact (hown (resolveClose_held hp hk)).trans (congrArg Host.Outcome.next (if_pos hk).symm)
            · exact (hown (resolveClose_closes hv ho hp hk)).trans (congrArg Host.Outcome.next (if_neg hk).symm)
      · rw [if_pos hclose]
        exact visitRequest_answers h hslot he (by simp only [hv, hst, if_neg hclose, if_neg haction]; rfl)

/-! ### AMEND (R56) -/

theorem amendKind_ok {k : Option Byte} (h : ¬ ∃ b, k = some b ∧ ¬ (1 ≤ b.toNat ∧ b.toNat ≤ 32)) :
    amendKind k = .ok (k.map fun b => b.toNat) := by
  cases k with
  | none => rfl
  | some b =>
    have hb : 1 ≤ b.toNat ∧ b.toNat ≤ 32 := by
      by_contra hb
      exact h ⟨b, rfl, hb⟩
    simp only [amendKind, kindCodeOf, if_pos hb, Option.map_some]

theorem amendPlate_ok {p : Option (List Byte)} (h : ¬ ∃ l, p = some l ∧ plateOf l = none) :
    amendPlate p = .ok (p.bind plateOf) := by
  cases p with
  | none => rfl
  | some l =>
    cases hl : plateOf l with
    | none => exact (h ⟨l, rfl, hl⟩).elim
    | some q => simp only [amendPlate, hl, Option.bind_some]

/-- A field out of its range refuses an AMEND before any other check (R56). -/
theorem amend_badRange {s : State} {n : Nat} {v : Visit} {kind : Option Byte} {plate : Option (List Byte)}
    {account : Option AccountNo}
    (h : (∃ b, kind = some b ∧ ¬ (1 ≤ b.toNat ∧ b.toNat ≤ 32)) ∨ ∃ l, plate = some l ∧ plateOf l = none) :
    s.amend n v kind plate account = s.refuseVisit n .outOfRange := by
  unfold State.amend
  split
  · next k p hk hp =>
    rcases h with ⟨b, rfl, hb⟩ | ⟨l, rfl, hl⟩
    · simp [amendKind, kindCodeOf, if_neg hb] at hk
    · simp [amendPlate, hl] at hp
  · rfl

/-- An account refuses a visit where it is missing, not ACTIVE, or at its limit (R85). -/
theorem accountCheck_isSome_iff {s : State} {n : Option AccountNo} : (s.accountCheck n).isSome = true ↔
    ∃ a, n = some a ∧ ∀ x, s.account a = some x → x.state ≠ .active ∨ x.limit ≤ x.count := by
  cases n with
  | none => simp [State.accountCheck]
  | some a =>
    simp only [State.accountCheck, Option.some.injEq, exists_eq_left']
    cases s.account a with
    | none => simp
    | some x =>
      simp only [Option.some.injEq, forall_eq']
      split
      · next hx => simp [hx]
      · next hx =>
        split
        · next hl => simp [hl]
        · next hl => simp [hx, hl]

theorem amendKindFails_iff (s : State) (v : Visit) (k : Option Byte) :
    s.amendKindFails v (k.map fun b => b.toNat) = true ↔ k ≠ none ∧
      ¬ ((s.kind ((k.map fun b => b.toNat).getD v.kind)).accepted = true ∧
        (s.kind ((k.map fun b => b.toNat).getD v.kind)).allows v.direction = true) := by
  cases k with
  | none => simp [State.amendKindFails]
  | some b => simp [State.amendKindFails, Decidable.imp_iff_not_or]

theorem amendPlateFails_iff (s : State) (v : Visit) (p : Option Plate) :
    s.amendPlateFails v p = true ↔ p ≠ none ∧ p.getD v.plate ≠ v.plate ∧
      ∃ m u, s.visit m = some u ∧ u.isOpen = true ∧ u.plate = p.getD v.plate := by
  cases p with
  | none => simp [State.amendPlateFails]
  | some q => simp [State.amendPlateFails, findSlot_isSome_iff, Visit.openPlate]

/-- The account an AMEND gives the visit: the carried one, or the visit's own (R56). -/
def amendedAccount (v : Visit) (account : Option AccountNo) : Option AccountNo :=
  match account with
  | some a => accountOf a
  | none => v.account

theorem amendAccountFails_iff (s : State) (v : Visit) (account : Option AccountNo) :
    s.amendAccountFails v account = true ↔ ∃ a, amendedAccount v account = some a ∧
      amendedAccount v account ≠ v.account ∧ ∀ x, s.account a = some x → x.state ≠ .active ∨ x.limit ≤ x.count := by
  cases account with
  | none => simp [State.amendAccountFails, amendedAccount]
  | some n =>
    simp only [State.amendAccountFails, amendedAccount, Option.any_some, Bool.and_eq_true, bne_iff_ne,
      accountCheck_isSome_iff]
    exact ⟨fun ⟨hne, a, ha, hx⟩ => ⟨a, ha, hne, hx⟩, fun ⟨a, ha, hne, hx⟩ => ⟨hne, a, ha, hx⟩⟩

/-- The on-site counts after a visit's account has changed (R56, R75). -/
theorem moveAccount_eq (s : State) (before after : Option AccountNo) : s.moveAccount before after =
    { s with accounts := if after = before then s.accounts else s.accounts.map fun a =>
        if before = some a.number then { a with count := a.count - 1 }
        else if after = some a.number then { a with count := a.count + 1 } else a } := by
  unfold State.moveAccount
  by_cases h : after = before
  · rw [if_pos h.symm, if_pos h]
  · rw [if_neg (Ne.symm h), if_neg h, countDown_eq, countUp_eq]
    simp only [List.map_map]
    congr 1
    refine List.map_congr_left fun a _ => ?_
    by_cases hb : before = some a.number
    · have hafter : after ≠ some a.number := fun ha => h (ha.trans hb.symm)
      simp [hb, hafter]
    · simp [hb]

/-- A slot after a write of another visit in the place of its own (R40). -/
theorem slotWrite_visit {sl : Slot} {v v' : Visit} (h : sl.visit = some v) :
    sl.write (some v') = ⟨if v' = v then sl.revision else sl.revision + 1, some v'⟩ := by
  unfold Slot.write
  by_cases heq : v' = v
  · rw [if_pos (heq ▸ h), if_pos heq, heq, ← h]
  · rw [if_neg (by rw [h]; exact fun hs => heq (Option.some.inj hs).symm), if_neg heq]

/-- An AMEND whose checks pass (R56). -/
theorem amended_done {s : State} {n : Nat} {v v' : Visit} (hv : s.visit n = some v) :
    ((s.writeSlot n (some v')).moveAccount v.account v'.account).doneVisit n =
      ({ s with
          register := { s.register with
            slots := s.register.slots.set n
              ⟨if v' = v then (s.slot n).revision else (s.slot n).revision + 1, some v'⟩ }
          accounts := if v'.account = v.account then s.accounts else s.accounts.map fun a =>
            if v.account = some a.number then { a with count := a.count - 1 }
            else if v'.account = some a.number then { a with count := a.count + 1 } else a },
        .done (.revision (if v' = v then (s.slot n).revision else (s.slot n).revision + 1))) := by
  have hslot : (s.writeSlot n (some v')).slot n = (s.slot n).write (some v') :=
    (slot_writeSlot s n n _ (lt_of_visit hv)).trans (if_pos rfl)
  have hrevision : (((s.writeSlot n (some v')).moveAccount v.account v'.account).slot n).revision =
      if v' = v then (s.slot n).revision else (s.slot n).revision + 1 := by
    rw [moveAccount_eq]
    exact (congrArg Slot.revision hslot).trans (congrArg Slot.revision (slotWrite_visit hv))
  rw [State.doneVisit, hrevision, moveAccount_eq, writeSlot_eq_set, slotWrite_visit hv]

/-- Settles O19: the checks of R56 in their order, then the changed visit and the moved count. -/
theorem amendChangesTheVisit : Obligations.AmendChangesTheVisit := by
  intro s slot expected kind plate account h hslot he n r e
  have hexec : e = execAmend slot expected kind plate account s := rfl
  constructor
  · intro hnot
    rw [hexec]
    cases hv : s.visit n with
    | none => exact visitRequest_answers h hslot he (by simp only [show s.visit slot.toNat = none from hv]; rfl)
    | some v =>
      have hv' : s.visit slot.toNat = some v := hv
      cases hst : v.state with
      | onSite w => exact (hnot v w hv hst).elim
      | arriving | departing | held | closed =>
        exact visitRequest_answers h hslot he (by simp only [hv', hst]; rfl)
  · intro v w hv hw newKind newPlate newAccount v' badRange badKind badPlate badAccount
    have hv' : s.visit slot.toNat = some v := hv
    have hown {t : State} {c : ReplyCode} {b : Body}
        (hr : s.amend n v kind plate account = (t, { code := c, body := b })) : e = .next (t.answered Code.amend c b) :=
      visitRequest_answers h hslot he (by simp only [hv', hw]; exact hr)
    have hchecked (hrange : ¬ badRange) : s.amend n v kind plate account =
        if s.amendKindFails v (kind.map fun b => b.toNat) then s.refuseVisit n .refused
        else if s.amendPlateFails v (plate.bind plateOf) then s.refuseVisit n .conflict
        else if s.amendAccountFails v account then s.refuseVisit n .refused
        else ((s.writeSlot n (some v')).moveAccount v.account v'.account).doneVisit n := by
      rw [not_or] at hrange
      simp only [State.amend, amendKind_ok hrange.1, amendPlate_ok hrange.2]
      cases account <;> rfl
    have hkind : s.amendKindFails v (kind.map fun b => b.toNat) = true ↔ badKind := amendKindFails_iff s v kind
    have hplate (hrange : ¬ badRange) : s.amendPlateFails v (plate.bind plateOf) = true ↔ badPlate := by
      have hcarried : plate.bind plateOf ≠ none ↔ plate ≠ none := by
        cases plate with
        | none => simp
        | some l =>
          have hl : plateOf l ≠ none := fun hl => hrange (.inr ⟨l, rfl, hl⟩)
          simp [hl]
      rw [amendPlateFails_iff, hcarried]
    have haccount : s.amendAccountFails v account = true ↔ badAccount := by
      have hnew : amendedAccount v account = newAccount := by cases account <;> rfl
      rw [amendAccountFails_iff, hnew]
    refine ⟨fun hr => hown (amend_badRange hr), fun hr hk => hown ?_, fun hr hk hp => hown ?_,
      fun hr hk hp ha => hown ?_, fun hr hk hp ha => hown ?_⟩
    · rw [hchecked hr, if_pos (hkind.2 hk)]
      rfl
    · rw [hchecked hr, if_neg (hkind.not.2 hk), if_pos ((hplate hr).2 hp)]
      rfl
    · rw [hchecked hr, if_neg (hkind.not.2 hk), if_neg ((hplate hr).not.2 hp), if_pos (haccount.2 ha)]
      rfl
    · rw [hchecked hr, if_neg (hkind.not.2 hk), if_neg ((hplate hr).not.2 hp), if_neg (haccount.not.2 ha)]
      exact amended_done hv

end Sys2Proof.Machine
end

section
/-! PROOFS. The printer requests, REDIRECT and REPRINT (R55, R61, R160 to R162). -/

namespace Sys2Proof.Machine

/-! ### The printer requests (R160) -/

/-- A printer with its state and hold request written. -/
def State.putPrinter (s : State) (p : PrinterId) (st : PrinterState) (hold : Bool) : State :=
  { s with printing := { s.printing with
      printers := s.printing.printers.set p { s.printing.printers.get p with state := st, hold := hold } } }

theorem setPrinterState_eq (s : State) (p : PrinterId) (st : PrinterState) :
    s.setPrinterState p st = s.putPrinter p st false := rfl

theorem setHold_eq {s : State} {p : PrinterId} (h : (s.printer p).state = .printing) (hold : Bool) :
    s.setHold p hold = s.putPrinter p .printing hold := by
  rw [← h]
  rfl

/-- The state with the answer of a printer request, which shows the printer in that state (R160). -/
def State.printerAnswered (s : State) (kind : Byte) (p : PrinterId) (c : ReplyCode) : State :=
  s.answered kind c (.printer (s.printing.printers.get p).state (s.printing.printers.get p).hold)

theorem request_printer {kind : Byte} {f : State → State × Reply} {s t : State} {p : PrinterId} {c : ReplyCode}
    (h : s.listening) (hf : f s = t.printerReply p c) : request kind f s = .next (t.printerAnswered kind p c) :=
  request_answers h hf

section Requests

variable {s : State} {b : Byte} {p : PrinterId}

theorem exec_holdPrinter (h : s.listening) (hp : printerOf b = some p) : exec (.holdPrinter b) s = .next (
    match (s.printer p).state with
    | .inService => (s.putPrinter p .held false).printerAnswered Code.holdPrinter p .done
    | .printing => (s.putPrinter p .printing true).printerAnswered Code.holdPrinter p .done
    | .held => s.printerAnswered Code.holdPrinter p .done
    | .outOfService => s.printerAnswered Code.holdPrinter p .wrongState) := by
  change request Code.holdPrinter _ s = _
  cases hst : (s.printer p).state with
  | inService => exact request_printer h (by simp only [hp, hst]; rfl)
  | printing => exact request_printer h (by simp only [hp, hst, setHold_eq hst])
  | held | outOfService => exact request_printer h (by simp only [hp, hst])

theorem exec_releasePrinter (h : s.listening) (hp : printerOf b = some p) : exec (.releasePrinter b) s = .next (
    if (s.printer p).state = .printing ∧ (s.printer p).hold = true then
      (s.putPrinter p .printing false).printerAnswered Code.releasePrinter p .done
    else if (s.printer p).state = .held then
      (s.putPrinter p .inService false).serveBus.printerAnswered Code.releasePrinter p .done
    else s.printerAnswered Code.releasePrinter p .wrongState) := by
  change request Code.releasePrinter _ s = _
  cases hst : (s.printer p).state with
  | printing =>
    by_cases hhold : (s.printer p).hold = true
    · rw [if_pos ⟨rfl, hhold⟩]
      exact request_printer h (by simp only [hp, hst, if_pos hhold, setHold_eq hst])
    · rw [if_neg fun hboth => hhold hboth.2, if_neg PrinterState.noConfusion]
      exact request_printer h (by simp only [hp, hst, if_neg hhold])
  | held =>
    rw [if_neg fun hboth => PrinterState.noConfusion hboth.1, if_pos rfl]
    exact request_printer h (by simp only [hp, hst]; rfl)
  | inService | outOfService =>
    rw [if_neg fun hboth => PrinterState.noConfusion hboth.1, if_neg PrinterState.noConfusion]
    exact request_printer h (by simp only [hp, hst])

theorem exec_resumePrinter (h : s.listening) (hp : printerOf b = some p) : exec (.resumePrinter b) s = .next (
    if (s.printer p).state = .outOfService then
      (s.putPrinter p .inService false).serveBus.printerAnswered Code.resumePrinter p .done
    else s.printerAnswered Code.resumePrinter p .wrongState) := by
  change request Code.resumePrinter _ s = _
  cases hst : (s.printer p).state with
  | outOfService =>
    rw [if_pos rfl]
    exact request_printer h (by simp only [hp, hst]; rfl)
  | inService | printing | held =>
    rw [if_neg PrinterState.noConfusion]
    exact request_printer h (by simp only [hp, hst])

end Requests

/-! ### REDIRECT and REPRINT (R161, R162) -/

/-- A change of a visit whose slot the arbiter then sees, answered with the revision of its own write (log 13). -/
theorem doneAndServe_writeSlot {s : State} {n : Nat} {v : Visit} (hv : s.visit n = some v) (x : Option Visit) :
    (s.writeSlot n x).doneAndServe n = ((s.writeSlot n x).serveBus,
      .done (.revision (if x = some v then (s.slot n).revision else (s.slot n).revision + 1))) := by
  simp only [State.doneAndServe, revision_writeSlot (lt_of_visit hv), hv, eq_comm]

/-- The ticket of a REDIRECT to a target (R161). -/
theorem redirected_eq (t : Ticket) (p : Option PrinterId) : t.redirected p =
    { t with
      target := p
      mark := match p with
        | none => .notRequired
        | some _ => if t.mark = .notRequired then .unprinted else t.mark } := by
  unfold Ticket.redirected
  cases p with
  | none => cases t.mark <;> rfl
  | some p => cases t.mark <;> rfl

/-- What a change of a ticket leaves in its slot (R61). -/
theorem afterTicket_eq (v : Visit) (t : Ticket) : v.afterTicket t =
    if t.collected = true ∧ (t.mark = .printed ∨ t.mark = .notRequired) then none
    else some { v with state := .closed t } := by
  simp [Visit.afterTicket, Ticket.settled, Visit.withTicket]

section Tickets

variable {s : State} {slot : Byte} {expected : Option Revision}

/-- REDIRECT and REPRINT of a visit that is not CLOSED (R161, R162). -/
theorem exec_ticketRequest_wrongState (h : s.listening) (hslot : slot.toNat < 128)
    (he : expected = none ∨ expected = some (s.slot slot.toNat).revision)
    (hnot : ∀ v t, s.visit slot.toNat = some v → v.state ≠ .closed t) :
    (∀ b, exec (.redirect slot expected b) s =
      .next (s.answered Code.redirect .wrongState (.revision (s.slot slot.toNat).revision))) ∧
    exec (.reprint slot expected) s =
      .next (s.answered Code.reprint .wrongState (.revision (s.slot slot.toNat).revision)) := by
  cases hv : s.visit slot.toNat with
  | none =>
    exact ⟨fun b => visitRequest_answers h hslot he (by simp only [hv]; rfl),
      visitRequest_answers h hslot he (by simp only [hv]; rfl)⟩
  | some v =>
    cases hst : v.state with
    | closed t => exact (hnot v t hv hst).elim
    | arriving | onSite | departing | held =>
      exact ⟨fun b => visitRequest_answers h hslot he (by simp only [hv, hst]; rfl),
        visitRequest_answers h hslot he (by simp only [hv, hst]; rfl)⟩

variable {v : Visit} {t : Ticket}

theorem exec_redirect_none (h : s.listening) (hslot : slot.toNat < 128)
    (he : expected = none ∨ expected = some (s.slot slot.toNat).revision) (hv : s.visit slot.toNat = some v)
    (ht : v.state = .closed t) {b : Byte} (hb : targetOf b = none) :
    exec (.redirect slot expected b) s =
      .next (s.answered Code.redirect .outOfRange (.revision (s.slot slot.toNat).revision)) :=
  visitRequest_answers h hslot he (by simp only [hv, ht, hb]; rfl)

theorem exec_redirect_some (h : s.listening) (hslot : slot.toNat < 128)
    (he : expected = none ∨ expected = some (s.slot slot.toNat).revision) (hv : s.visit slot.toNat = some v)
    (ht : v.state = .closed t) {b : Byte} {p : Option PrinterId} (hb : targetOf b = some p) :
    exec (.redirect slot expected b) s = .next (
      if t.mark = .printing then s.answered Code.redirect .busy (.revision (s.slot slot.toNat).revision)
      else (s.writeSlot slot.toNat (v.afterTicket (t.redirected p))).serveBus.answered Code.redirect .done (.revision
        (if v.afterTicket (t.redirected p) = some v then (s.slot slot.toNat).revision
          else (s.slot slot.toNat).revision + 1))) := by
  split
  · next hm => exact visitRequest_answers h hslot he (by simp only [hv, ht, hb, if_pos hm]; rfl)
  · next hm =>
    exact visitRequest_answers h hslot he (by simp only [hv, ht, hb, if_neg hm]; exact doneAndServe_writeSlot hv _)

theorem exec_reprint (h : s.listening) (hslot : slot.toNat < 128)
    (he : expected = none ∨ expected = some (s.slot slot.toNat).revision) (hv : s.visit slot.toNat = some v)
    (ht : v.state = .closed t) :
    exec (.reprint slot expected) s = .next (
      if t.mark = .printing then s.answered Code.reprint .busy (.revision (s.slot slot.toNat).revision)
      else if t.collected = false ∧ t.mark = .printed then
        (s.writeSlot slot.toNat (some { v with state := .closed { t with mark := .unprinted } })).serveBus.answered
          Code.reprint .done (.revision ((s.slot slot.toNat).revision + 1))
      else s.answered Code.reprint .wrongState (.revision (s.slot slot.toNat).revision)) := by
  split
  · next hm => exact visitRequest_answers h hslot he (by simp only [hv, ht, if_pos hm]; rfl)
  · next hm =>
    split
    · next hboth =>
      obtain ⟨hcollected, hprinted⟩ := hboth
      have hne : some (v.withTicket { t with mark := .unprinted }) ≠ some v := by
        intro hsame
        have hstate := congrArg Visit.state (Option.some.inj hsame)
        rw [ht] at hstate
        have hmark := congrArg Ticket.mark (VisitState.closed.inj hstate)
        rw [hprinted] at hmark
        cases hmark
      refine visitRequest_answers h hslot he ?_
      simp only [hv, ht, if_neg hm, if_neg (Bool.eq_false_iff.1 hcollected), if_pos hprinted]
      exact (doneAndServe_writeSlot hv _).trans (by rw [if_neg hne]; rfl)
    · next hnot =>
      refine visitRequest_answers h hslot he ?_
      simp only [hv, ht, if_neg hm]
      split
      · rfl
      · next hcollected =>
        rw [if_neg fun hprinted => hnot ⟨by simpa using hcollected, hprinted⟩]
        rfl

end Tickets

/-- Settles O46: the printer requests by the printer's state, then the ticket requests by the state of the visit. -/
theorem printerAndTicketRequests : Obligations.PrinterAndTicketRequests := by
  intro s h
  dsimp only
  refine ⟨fun b => ?_, fun b => ?_, fun b => ?_, fun slot expected hslot he => ⟨?_, fun v t hv ht => ⟨fun b => ?_, ?_⟩⟩⟩
  · cases hp : printerOf b with
    | none => exact request_bare h (by simp only [hp])
    | some p => exact exec_holdPrinter h hp
  · cases hp : printerOf b with
    | none => exact request_bare h (by simp only [hp])
    | some p => exact exec_releasePrinter h hp
  · cases hp : printerOf b with
    | none => exact request_bare h (by simp only [hp])
    | some p => exact exec_resumePrinter h hp
  · exact exec_ticketRequest_wrongState h hslot he
  · cases hb : targetOf b with
    | none => exact exec_redirect_none h hslot he hv ht hb
    | some p =>
      have hexec := exec_redirect_some h hslot he hv ht hb
      rw [redirected_eq, afterTicket_eq] at hexec
      exact hexec
  · exact exec_reprint h hslot he hv ht

end Sys2Proof.Machine
end

section
/-! PROOFS. SEEK and WALK (R53, R54): the searches up and down from a slot, and the walk cursor they move. -/

namespace Sys2Proof.Machine

/-! ### The searches (R53) -/

/-- The search down a range finds the greatest number with the property. -/
theorem find?_reverse_range (p : Nat → Bool) (k m : Nat) :
    (List.range k).reverse.find? p = some m ↔ m < k ∧ p m = true ∧ ∀ i, m < i → i < k → p i = false := by
  induction k with
  | zero => simp
  | succ k ih =>
    rw [List.range_succ, List.reverse_append, List.reverse_singleton, List.singleton_append, List.find?_cons]
    cases hk : p k with
    | true =>
      simp only [Option.some.injEq]
      constructor
      · rintro rfl
        exact ⟨by omega, hk, fun i h1 h2 => by omega⟩
      · rintro ⟨hm, -, hnot⟩
        by_contra hne
        have hfalse := hnot k (by omega) (by omega)
        rw [hk] at hfalse
        cases hfalse
    | false =>
      simp only [ih]
      constructor
      · rintro ⟨hm, hp, hnot⟩
        refine ⟨by omega, hp, fun i h1 h2 => ?_⟩
        rcases Nat.lt_succ_iff_lt_or_eq.1 h2 with h2 | rfl
        · exact hnot i h1 h2
        · exact hk
      · rintro ⟨hm, hp, hnot⟩
        rcases Nat.lt_succ_iff_lt_or_eq.1 hm with hm | rfl
        · exact ⟨hm, hp, fun i h1 h2 => hnot i h1 (by omega)⟩
        · rw [hk] at hp
          cases hp

section Searches

variable {s : State} {f : WalkFilter} {n m : Nat}

theorem searchUp_eq_some (h : n ≤ m ∧ m < 128 ∧ f.passes (s.slot m) = true ∧
    ∀ i, n ≤ i → i < m → f.passes (s.slot i) = false) : s.searchUp f n = some m := by
  obtain ⟨hnm, hm, hp, hnot⟩ := h
  rw [State.searchUp, List.find?_filter, List.find?_range_eq_some]
  refine ⟨by simp [hnm, hp], by simpa using hm, fun i hi => ?_⟩
  by_cases hni : n ≤ i
  · simp [hnot i hni hi]
  · simp [hni]

theorem searchUp_eq_none (h : ∀ i, n ≤ i → i < 128 → f.passes (s.slot i) = false) : s.searchUp f n = none := by
  rw [State.searchUp, List.find?_filter, List.find?_range_eq_none]
  intro i hi
  by_cases hni : n ≤ i
  · simp [h i hni hi]
  · simp [hni]

theorem searchDown_eq_some (h : m ≤ n ∧ m < 128 ∧ f.passes (s.slot m) = true ∧
    ∀ i, m < i → i ≤ n → i < 128 → f.passes (s.slot i) = false) : s.searchDown f n = some m := by
  obtain ⟨hmn, hm, hp, hnot⟩ := h
  rw [State.searchDown, List.find?_filter, find?_reverse_range]
  refine ⟨hm, by simp [hmn, hp], fun i hi hi128 => ?_⟩
  by_cases hin : i ≤ n
  · simp [hnot i hi hin hi128]
  · simp [hin]

theorem searchDown_eq_none (h : ∀ i, i ≤ n → i < 128 → f.passes (s.slot i) = false) : s.searchDown f n = none := by
  rw [State.searchDown, List.find?_filter, List.find?_eq_none]
  intro i hi
  have hi128 : i < 128 := by simpa using hi
  by_cases hin : i ≤ n
  · simp [h i hin hi128]
  · simp [hin]

end Searches

/-- The slot that a WALK after slot `n` looks at first (R54). -/
def nextStart (step : WalkStep) (n : Nat) : Nat :=
  match step with
  | .up => n + 1
  | .down => n - 1
  | .stay => n

/-- A WALK searches from the next slot, unless that is below slot 0 (R54). -/
theorem stepFrom_eq {s : State} {step : WalkStep} {n : Nat} (f : WalkFilter) (h : ¬ (step = .down ∧ n = 0)) :
    s.stepFrom step f n = s.seekFrom step f (nextStart step n) := by
  cases step with
  | up | stay => rfl
  | down => exact if_neg fun hn => h ⟨rfl, hn⟩

/-- A WALK down from slot 0 ends (R54). -/
theorem stepFrom_past {s : State} {step : WalkStep} {n : Nat} (f : WalkFilter) (h : step = .down ∧ n = 0) :
    s.stepFrom step f n = none := by
  obtain ⟨rfl, rfl⟩ := h
  rfl

/-! ### The requests -/

section Requests

variable {s : State} {slot step filter : Byte} {n m : Nat} {st : WalkStep} {f : WalkFilter} {snap : Snapshot}

theorem exec_seek_outOfRange (h : s.listening) (hbad : slotOf slot = none ∨ stepOf step = none ∨ filterOf filter = none) :
    exec (.seek slot step filter) s = .next (s.answered Code.seek .outOfRange) := by
  refine request_bare h ?_
  split
  · next n st f hn hst hf => simp [hn, hst, hf] at hbad
  · rfl

theorem exec_seek_found (h : s.listening) (hn : slotOf slot = some n) (hst : stepOf step = some st)
    (hf : filterOf filter = some f) (hm : s.seekFrom st f n = some m) : exec (.seek slot step filter) s =
      .next ((s.setCursor ⟨m, st, f, some (s.snapshot m)⟩).answered Code.seek .done (.seekSlot m)) :=
  request_answers h (by simp only [hn, hst, hf, hm]; rfl)

theorem exec_seek_end (h : s.listening) (hn : slotOf slot = some n) (hst : stepOf step = some st)
    (hf : filterOf filter = some f) (hm : s.seekFrom st f n = none) : exec (.seek slot step filter) s =
      .next ((s.setCursor ⟨n, st, f, none⟩).answered Code.seek .done .walkEnd) :=
  request_answers h (by simp only [hn, hst, hf, hm]; rfl)

theorem exec_walk_end (h : s.listening) (hb : s.register.cursor.buffer = none) :
    exec .walk s = .next (s.answered Code.walk .done .walkEnd) :=
  request_answers h (by simp only [hb]; rfl)

theorem exec_walk_found (h : s.listening) (hb : s.register.cursor.buffer = some snap)
    (hm : s.stepFrom s.register.cursor.step s.register.cursor.filter snap.number = some m) : exec .walk s =
      .next ((s.setCursor { s.register.cursor with position := m, buffer := some (s.snapshot m) }).answered
        Code.walk .done (.visit snap)) :=
  request_answers h (by simp only [hb, hm]; rfl)

theorem exec_walk_last (h : s.listening) (hb : s.register.cursor.buffer = some snap)
    (hm : s.stepFrom s.register.cursor.step s.register.cursor.filter snap.number = none) : exec .walk s =
      .next ((s.setCursor { s.register.cursor with position := snap.number, buffer := none }).answered
        Code.walk .done (.visit snap)) :=
  request_answers h (by simp only [hb, hm]; rfl)

end Requests

/-- Settles O17: the searches by their steps, then the requests by what the search finds. -/
theorem seekAndWalkMoveTheCursor : Obligations.SeekAndWalkMoveTheCursor := by
  intro s h isFirst isNone moved
  have hfirst : ∀ st f n m, isFirst st f n m → s.seekFrom st f n = some m := by
    intro st f n m hm
    cases st with
    | up => exact searchUp_eq_some hm
    | down => exact searchDown_eq_some hm
    | stay => exact congrArg some (Eq.symm hm)
  have hnone : ∀ st f n, isNone st f n → s.seekFrom st f n = none := by
    intro st f n hm
    cases st with
    | up => exact searchUp_eq_none hm
    | down => exact searchDown_eq_none hm
    | stay => exact hm.elim
  refine ⟨fun slot step filter hbad => exec_seek_outOfRange h hbad, fun slot step filter n st f hn hst hf =>
    ⟨fun m hm => exec_seek_found h hn hst hf (hfirst st f n m hm), fun hm => exec_seek_end h hn hst hf (hnone st f n hm)⟩,
    fun hb => exec_walk_end h hb, fun snap hb => ?_⟩
  intro c start past
  have hstart : start = nextStart c.step snap.number := rfl
  refine ⟨fun m hpast hm => exec_walk_found h hb ?_, fun hend => exec_walk_last h hb ?_⟩
  · exact (stepFrom_eq c.filter hpast).trans (hfirst _ _ _ _ (hstart ▸ hm))
  · by_cases hpast : past
    · exact stepFrom_past c.filter hpast
    · exact (stepFrom_eq c.filter hpast).trans (hnone _ _ _ (hstart ▸ hend.resolve_left hpast))

end Sys2Proof.Machine
end

section
/-! PROOFS. Plates, keys and FIND (R44, R52, R184, R186). -/

namespace Sys2Proof.Machine

/-! ### Plates (R44, R184) -/

/-- A letter of either case, or a digit. -/
def plateInput (c : Byte) : Prop :=
  (0x41 ≤ c.toNat ∧ c.toNat ≤ 0x5A) ∨ (0x61 ≤ c.toNat ∧ c.toNat ≤ 0x7A) ∨ (0x30 ≤ c.toNat ∧ c.toNat ≤ 0x39)

/-- A character folds to one a plate may hold exactly where it is a letter or a digit (R44). -/
theorem plateChar_foldChar (c : Byte) : plateChar (foldChar c) = true ↔ plateInput c := by
  unfold plateChar foldChar plateInput
  split
  · next hlower =>
    have hfold : (c - 0x20 : Byte).toNat = c.toNat - 32 := BitVec.toNat_sub_of_le (by simp [BitVec.le_def]; omega)
    simp only [hfold, Bool.or_eq_true, Bool.and_eq_true, decide_eq_true_eq]
    omega
  · simp only [Bool.or_eq_true, Bool.and_eq_true, decide_eq_true_eq]
    omega

theorem plateInput_ne_space {c : Byte} (h : plateInput c) : c ≠ 0x20 := by
  rintro rfl
  simp [plateInput] at h

/-- A field is its characters and spaces after them (R184). -/
theorem plateChars_append_spaces (l : List Byte) : ∃ n, l = plateChars l ++ List.replicate n 0x20 := by
  have hspaces : ∀ c ∈ l.reverse.takeWhile (· == (0x20 : Byte)), c = 0x20 := fun c hc => by
    simpa using List.mem_takeWhile_imp hc
  refine ⟨(l.reverse.takeWhile (· == 0x20)).length, ?_⟩
  calc l = (l.reverse.takeWhile (· == 0x20) ++ l.reverse.dropWhile (· == 0x20)).reverse := by
        rw [List.takeWhile_append_dropWhile, List.reverse_reverse]
    _ = plateChars l ++ (l.reverse.takeWhile (· == 0x20)).reverse := List.reverse_append
    _ = plateChars l ++ List.replicate (l.reverse.takeWhile (· == 0x20)).length 0x20 := by
        rw [List.eq_replicate_of_mem hspaces, List.reverse_replicate, List.length_replicate]

/-- The characters of a field of letters and digits with spaces after them (R184). -/
theorem plateChars_of_input {cs : List Byte} (h : ∀ c ∈ cs, plateInput c) (n : Nat) :
    plateChars (cs ++ List.replicate n 0x20) = cs := by
  have hkeep : cs.reverse.dropWhile (· == 0x20) = cs.reverse := by
    rw [List.dropWhile_eq_self_iff]
    intro hl hspace
    have hmem : cs.reverse[0] ∈ cs := List.mem_reverse.1 (List.getElem_mem hl)
    exact plateInput_ne_space (h _ hmem) (by simpa using hspace)
  rw [plateChars, List.reverse_append, List.reverse_replicate,
    List.dropWhile_append_of_pos (fun c hc => by simp [List.eq_of_mem_replicate hc]), hkeep, List.reverse_reverse]

/-- The plate of a field: one to ten letters or digits before spaces, folded (R44, R184). -/
theorem plateOf_eq_some_iff (l : List Byte) (p : Plate) : plateOf l = some p ↔
    ∃ (cs : List Byte) (n : Nat), l = cs ++ List.replicate n 0x20 ∧ 1 ≤ cs.length ∧ cs.length ≤ 10 ∧
      (∀ c ∈ cs, plateInput c) ∧ p = cs.map foldChar := by
  have hinput (cs : List Byte) : (cs.map foldChar).all plateChar = true ↔ ∀ c ∈ cs, plateInput c := by
    simp only [List.all_map, List.all_eq_true, Function.comp_apply, plateChar_foldChar]
  unfold plateOf
  dsimp only
  simp only [List.length_map, hinput, Option.ite_none_right_eq_some, Option.some.injEq]
  constructor
  · rintro ⟨⟨hmin, hmax, hchars⟩, rfl⟩
    obtain ⟨n, hn⟩ := plateChars_append_spaces l
    exact ⟨plateChars l, n, hn, hmin, hmax, hchars, rfl⟩
  · rintro ⟨cs, n, rfl, hmin, hmax, hchars, rfl⟩
    rw [plateChars_of_input hchars]
    exact ⟨⟨hmin, hmax, hchars⟩, rfl⟩

/-! ### Keys (R186) -/

/-- The number in the first four bytes of a key, most significant first (R184). -/
theorem keyNumber (a b c d : Byte) (rest : List Byte) : (fieldAt 32 (a :: b :: c :: d :: rest) 0 4).toNat =
    ((a.toNat * 256 + b.toNat) * 256 + c.toNat) * 256 + d.toNat := by
  have ha := a.isLt
  have hb := b.isLt
  have hc := c.isLt
  have hd := d.isLt
  simp only [fieldAt, slice, natOfBytes, List.drop_zero, List.take_succ_cons, List.take_zero, List.foldl_cons,
    List.foldl_nil, BitVec.toNat_ofNat]
  rw [Nat.mod_eq_of_lt] <;> omega

theorem tagOf_toNat (t : Tag) : (tagOf t).map (fun t => t.toNat) = if t.toNat = 0 then none else some t.toNat := by
  have hzero : t = 0 ↔ t.toNat = 0 := BitVec.toNat_inj.symm
  unfold tagOf
  by_cases ht : t = 0
  · rw [if_pos ht, if_pos (hzero.1 ht), Option.map_none]
  · rw [if_neg ht, if_neg (hzero.not.1 ht), Option.map_some]

theorem signedByte (a : Byte) : a.toInt = if a.toNat < 128 then (a.toNat : Int) else (a.toNat : Int) - 256 := by
  rw [BitVec.toInt_eq_toNat_cond]
  split <;> split <;> omega

/-! ### FIND (R52) -/

section Find

variable {s : State} {mode : Byte} {key : List Byte}

theorem exec_find_found {n : Nat} (h : s.listening) (hn : s.findKey mode key = .ok n) :
    exec (.find mode key) s = .next (s.answered Code.find .done (.visit ⟨n, s.slot n⟩)) :=
  query_done h (by simp only [hn]; rfl)

theorem exec_find_refused {c : ReplyCode} (h : s.listening) (hc : s.findKey mode key = .error c) :
    exec (.find mode key) s = .next (s.answered Code.find c) :=
  query_bare h (by simp only [hc])

/-- A search by the property that a mode's key gives (R52). -/
def State.findBy (s : State) (p : Visit → Bool) : Except ReplyCode Nat :=
  match s.findSlot p with
  | some n => .ok n
  | none => .error .notFound

/-- FIND by a mode whose key gives a property of visits: a slot that matches, or NOT_FOUND (R52). -/
theorem exec_findBy {p : Visit → Bool} (h : s.listening) (hp : s.findKey mode key = s.findBy p) :
    (∃ n v, s.visit n = some v ∧ p v = true ∧
      exec (.find mode key) s = .next (s.answered Code.find .done (.visit ⟨n, s.slot n⟩))) ∨
    ((∀ n v, s.visit n = some v → p v = false) ∧ exec (.find mode key) s = .next (s.answered Code.find .notFound)) := by
  unfold State.findBy at hp
  cases hfound : s.findSlot p with
  | none =>
    simp only [hfound] at hp
    exact .inr ⟨findSlot_eq_none_iff.1 hfound, exec_find_refused h hp⟩
  | some n =>
    simp only [hfound] at hp
    obtain ⟨v, hv, hpv⟩ := visit_of_findSlot hfound
    exact .inl ⟨n, v, hv, hpv, exec_find_found h hp⟩

theorem findKey_tag {t : Tag} (ht : keyTag key = some t) : s.findKey 2 key = s.findBy (Visit.openTag t) := by
  simp [State.findKey, ht]
  rfl

theorem findKey_plate {q : Plate} (hq : plateOf key = some q) : s.findKey 3 key = s.findBy (Visit.openPlate q) := by
  simp [State.findKey, hq]
  rfl

theorem findKey_ticket {t : Nat} (ht : keyTicket key = some t) :
    s.findKey 4 key = s.findBy (fun v => v.ticket.any fun k => k.number == t) := by
  simp [State.findKey, ht]
  rfl

theorem findKey_slot : s.findKey 1 key =
    if (byteAt key 0).toNat < 128 then .ok (byteAt key 0).toNat else .error .outOfRange := by
  simp only [State.findKey, keySlot, slotOf, if_true]
  split
  · next n hn => split at hn <;> simp_all
  · next hn => split at hn <;> simp_all

theorem findKey_unknown (hm : mode = 0 ∨ 5 < mode.toNat) : s.findKey mode key = .error .malformed := by
  have hne {k : Byte} (hk : 0 < k.toNat) (hk5 : k.toNat ≤ 5) : mode ≠ k := by
    rintro rfl
    rcases hm with rfl | hm
    · simp at hk
    · omega
  simp only [State.findKey, if_neg (hne (k := 1) (by decide) (by decide)), if_neg (hne (k := 2) (by decide) (by decide)),
    if_neg (hne (k := 3) (by decide) (by decide)), if_neg (hne (k := 4) (by decide) (by decide)),
    if_neg (hne (k := 5) (by decide) (by decide))]

end Find

/-- Settles O5: plates, keys, then FIND mode by mode. -/
theorem findReturnsTheLiveRecord : Obligations.FindReturnsTheLiveRecord := by
  refine ⟨plateOf_eq_some_iff, ?_, ?_⟩
  · intro a b c d rest key n
    have hkey : (fieldAt 32 key 0 4).toNat = n := keyNumber a b c d rest
    refine ⟨?_, ?_, rfl, signedByte a⟩
    · rw [keyTag, tagOf_toNat, hkey]
    · rw [keyTicket, hkey]
  · intro s key h found refused
    refine ⟨?_, ?_, ?_, ?_, ?_, ?_, fun mode hm => exec_find_refused h (findKey_unknown hm)⟩
    · split
      · next hk => exact exec_find_found h (findKey_slot.trans (if_pos hk))
      · next hk => exact exec_find_refused h (findKey_slot.trans (if_neg hk))
    · rintro mode p (⟨rfl, t, ht, rfl⟩ | ⟨rfl, q, hq, rfl⟩ | ⟨rfl, t, ht, rfl⟩)
      · exact exec_findBy h (findKey_tag ht)
      · exact exec_findBy h (findKey_plate hq)
      · exact exec_findBy h (findKey_ticket ht)
    · exact fun hk => exec_find_refused h (by simp [State.findKey, hk])
    · exact fun hk => exec_find_refused h (by simp [State.findKey, hk])
    · exact fun hk => exec_find_refused h (by simp [State.findKey, hk])
    · intro n
      split
      · next hn => exact exec_find_found h (by simp only [State.findKey]; exact if_pos hn)
      · next hn => exact exec_find_refused h (by simp only [State.findKey]; exact if_neg hn)

end Sys2Proof.Machine
end

section
/-! PROOFS. The over-stay check (R63) with the requests and the clock that it follows (R179, R180). -/

namespace Sys2Proof.Machine

/-! ### The check of one slot -/

/-- An ON_SITE visit over-stays where its flag is no and the clock is past its opened time by more than the max stay
(R63). -/
theorem overdue_iff (s : State) (v : Visit) : s.overdue v = true ↔ (∃ w, v.state = .onSite w) ∧ v.overStay = false ∧
    v.opened.toNat + s.service.maxStay * 3600 < s.service.clock.toNat := by
  unfold State.overdue Visit.overdue
  split
  · next w hw => simp [hw]
  · next hw => exact ⟨fun h => (nomatch h), fun ⟨⟨w, h⟩, _⟩ => (hw w h).elim⟩

theorem overdue_congr {s t : State} (h : t.service = s.service) (v : Visit) : t.overdue v = s.overdue v := by
  simp only [State.overdue, h]

theorem checkStay_late {s : State} {n : Nat} {v : Visit} (hv : s.visit n = some v) (ho : s.overdue v = true) :
    s.checkStay n = (s.writeSlot n (some { v with overStay := true })).raise .overStay (.slot n) := by
  simp only [State.checkStay, hv, if_pos ho]

theorem checkStay_in_time {s : State} {n : Nat} (h : ∀ v, s.visit n = some v → s.overdue v = false) :
    s.checkStay n = s := by
  unfold State.checkStay
  split
  · next v hv => exact if_neg (by simp [h v hv])
  · rfl

/-- A late visit is flagged, one revision on (R40, R63). -/
theorem slot_flagged {s : State} {n : Nat} {v : Visit} (hv : s.visit n = some v) (ho : s.overdue v = true) :
    (s.writeSlot n (some { v with overStay := true })).slot n =
      ⟨(s.slot n).revision + 1, some { v with overStay := true }⟩ := by
  have hne : (s.slot n).visit ≠ some { v with overStay := true } := by
    intro hsame
    have hflag := congrArg Visit.overStay (Option.some.inj (hv.symm.trans hsame))
    rw [((overdue_iff s v).1 ho).2.1] at hflag
    cases hflag
  rw [slot_writeSlot _ _ _ _ (lt_of_visit hv), if_pos rfl, slotWrite_of_ne hne]

/-! ### The check of the slots below a number -/

/-- What the over-stay check of the slots below `k` makes of a state (R63): its late visits flagged, with the notice of the
last of them, and nothing else. -/
structure StaysChecked (s : State) (k : Nat) (t : State) : Prop where
  late : ∀ n v, n < k → s.visit n = some v → s.overdue v = true →
    t.slot n = ⟨(s.slot n).revision + 1, some { v with overStay := true }⟩
  kept : ∀ n, (k ≤ n ∨ ∀ v, s.visit n = some v → s.overdue v = false) → t.slot n = s.slot n
  idle : (∀ n v, n < k → s.visit n = some v → s.overdue v = false) → t = s
  pending : ∀ n v l, n < k → s.visit n = some v → s.overdue v = true →
    (∀ m u, m < k → s.visit m = some u → s.overdue u = true → m ≤ n) → s.notices[11]? = some l → l.enable = true →
    t.notices[11]? = some { l with detail := some (.slot n) }
  line : ∀ l, s.notices[11]? = some l → ∃ d, t.notices[11]? = some { l with detail := d }
  others : ∀ i, i ≠ 11 → t.notices[i]? = s.notices[i]?
  nextTicket : t.register.nextTicket = s.register.nextTicket
  accounts : t.accounts = s.accounts
  service : t.service = s.service

theorem staysChecked_zero (s : State) : StaysChecked s 0 s where
  late _ _ h := absurd h (Nat.not_lt_zero _)
  kept _ _ := rfl
  idle _ := rfl
  pending _ _ _ h := absurd h (Nat.not_lt_zero _)
  line l h := ⟨l.detail, h⟩
  others _ _ := rfl
  nextTicket := rfl
  accounts := rfl
  service := rfl

section Step

variable {s t : State} {k : Nat}

/-- A slot without a late visit is passed over (R63). -/
theorem StaysChecked.pass (h : StaysChecked s k t) (hk : ∀ v, s.visit k = some v → s.overdue v = false) :
    StaysChecked s (k + 1) t where
  late n v hn hv ho := by
    rcases Nat.lt_succ_iff_lt_or_eq.1 hn with hn | rfl
    · exact h.late n v hn hv ho
    · rw [hk v hv] at ho
      cases ho
  kept n hn := h.kept n (hn.imp_left Nat.le_of_succ_le)
  idle hnone := h.idle fun n v hn => hnone n v (by omega)
  pending n v l hn hv ho hlast := by
    rcases Nat.lt_succ_iff_lt_or_eq.1 hn with hn | rfl
    · exact h.pending n v l hn hv ho fun m u hm => hlast m u (by omega)
    · rw [hk v hv] at ho
      cases ho
  line := h.line
  others := h.others
  nextTicket := h.nextTicket
  accounts := h.accounts
  service := h.service

/-- A slot with a late visit is flagged, and OVER_STAY takes its number (R63, R169). -/
theorem StaysChecked.flag (h : StaysChecked s k t) {v : Visit} (hv : s.visit k = some v) (ho : s.overdue v = true) :
    StaysChecked s (k + 1) ((t.writeSlot k (some { v with overStay := true })).raise .overStay (.slot k)) where
  late n u hn hu hou := by
    rcases Nat.lt_succ_iff_lt_or_eq.1 hn with hn | rfl
    · exact (slot_writeSlot_of_ne (by omega) _).trans (h.late n u hn hu hou)
    · obtain rfl := Option.some.inj (hv.symm.trans hu)
      have hkept := h.kept n (.inl le_rfl)
      have hvt : t.visit n = some v := (congrArg Slot.visit hkept).trans hv
      rw [← hkept]
      exact slot_flagged hvt ((overdue_congr h.service v).trans ho)
  kept n hn := by
    have hne : n ≠ k := by
      rintro rfl
      rcases hn with hn | hn
      · omega
      · rw [hn v hv] at ho
        cases ho
    exact (slot_writeSlot_of_ne hne _).trans (h.kept n (hn.imp_left Nat.le_of_succ_le))
  idle hnone := by
    rw [hnone k v (Nat.lt_succ_self k) hv] at ho
    cases ho
  pending n u l hn hu hou hlast hl henable := by
    have hkn := hlast k v (Nat.lt_succ_self k) hv ho
    obtain rfl : n = k := by omega
    obtain ⟨d, hd⟩ := h.line l hl
    rw [getElem?_raise]
    simp [hd, NoticeKind.order, NoticeLine.take, henable]
  line l hl := by
    obtain ⟨d, hd⟩ := h.line l hl
    rw [getElem?_raise]
    simp only [writeSlot_frame, hd, Option.map_some, NoticeKind.order, if_true, NoticeLine.take]
    split
    · exact ⟨_, rfl⟩
    · exact ⟨d, rfl⟩
  others i hi := by
    rw [getElem?_raise]
    simp [NoticeKind.order, Ne.symm hi, h.others i hi]
  nextTicket := h.nextTicket
  accounts := h.accounts
  service := h.service

end Step

/-- The over-stay check of the slots below `k` (R63). -/
theorem staysChecked_range (s : State) (k : Nat) : StaysChecked s k ((List.range k).foldl State.checkStay s) := by
  induction k with
  | zero => exact staysChecked_zero s
  | succ k ih =>
    rw [List.range_succ, List.foldl_append, List.foldl_cons, List.foldl_nil]
    have hkept : ((List.range k).foldl State.checkStay s).visit k = s.visit k :=
      congrArg Slot.visit (ih.kept k (.inl le_rfl))
    by_cases hlate : ∃ v, s.visit k = some v ∧ s.overdue v = true
    · obtain ⟨v, hv, ho⟩ := hlate
      rw [checkStay_late (hkept.trans hv) ((overdue_congr ih.service v).trans ho)]
      exact ih.flag hv ho
    · have htime : ∀ v, s.visit k = some v → s.overdue v = false := fun v hv =>
        Bool.eq_false_iff.2 fun ho => hlate ⟨v, hv, ho⟩
      rw [checkStay_in_time fun v hv => (overdue_congr ih.service v).trans (htime v (hkept.symm.trans hv))]
      exact ih.pass htime

/-! ### The requests and the clock (R179, R180) -/

theorem flagOf_eq (b : Byte) : flagOf b = if 1 < b.toNat then none else some (decide (b = 1)) := by
  have h0 : b = 0 ↔ b.toNat = 0 := BitVec.toNat_inj.symm
  have h1 : b = 1 ↔ b.toNat = 1 := BitVec.toNat_inj.symm
  unfold flagOf
  by_cases hzero : b = 0
  · have hlt : ¬ 1 < b.toNat := by rw [h0.1 hzero]; omega
    rw [if_pos hzero, if_neg hlt, hzero]
    rfl
  · rw [if_neg hzero]
    by_cases hone : b = 1
    · have hlt : ¬ 1 < b.toNat := by rw [h1.1 hone]; omega
      rw [if_pos hone, if_neg hlt, decide_eq_true hone]
    · rw [if_neg hone, if_pos (by rw [h0] at hzero; rw [h1] at hone; omega)]

theorem clamped_stay (b : Byte) : clamped 1 48 b.toNat = decide (b = 0 ∨ 48 < b.toNat) := by
  have h0 : b = 0 ↔ b.toNat = 0 := BitVec.toNat_inj.symm
  rw [clamped, clamp, Bool.eq_iff_iff, bne_iff_ne, decide_eq_true_eq, h0]
  omega

theorem exec_setSite {s : State} (h : s.listening) (stay tagWake loopWake : Byte) :
    exec (.setSite stay tagWake loopWake) s = .next (
      if 1 < tagWake.toNat ∨ 1 < loopWake.toNat then s.answered Code.setSite .outOfRange
      else (State.checkStays { s with service := { s.service with
        maxStay := clamp 1 48 stay.toNat, tagWake := decide (tagWake = 1), loopWake := decide (loopWake = 1) } }).answered
          Code.setSite .done (.site (clamp 1 48 stay.toNat) (decide (tagWake = 1)) (decide (loopWake = 1)))
          (decide (stay = 0 ∨ 48 < stay.toNat))) := by
  change request Code.setSite _ s = _
  by_cases hbad : 1 < tagWake.toNat ∨ 1 < loopWake.toNat
  · rw [if_pos hbad]
    refine request_bare h ?_
    rcases hbad with htag | hloop
    · simp only [flagOf_eq, if_pos htag]
    · have hnone : flagOf loopWake = none := by rw [flagOf_eq, if_pos hloop]
      cases flagOf tagWake <;> simp only [hnone]
  · rw [if_neg hbad, request_performed _ _ s h, ← clamped_stay]
    obtain ⟨htag, hloop⟩ := not_or.1 hbad
    simp only [flagOf_eq, if_neg htag, if_neg hloop]
    rfl

/-- Settles O50: the check over all 128 slots, then the requests and the second of the clock that it follows. -/
theorem clockAndSiteCheckTheStays : Obligations.ClockAndSiteCheckTheStays := by
  refine ⟨?_, fun s seconds h => request_bare h rfl, fun s stay tagWake loopWake h => exec_setSite h _ _ _, fun s => rfl⟩
  intro s hlen late t
  have hlate (v : Visit) : s.overdue v = true ↔ late v := overdue_iff s v
  have htime (v : Visit) (h : ¬ late v) : s.overdue v = false := Bool.eq_false_iff.2 ((hlate v).not.2 h)
  have h128 {n : Nat} {v : Visit} (hv : s.visit n = some v) : n < 128 := hlen ▸ lt_of_visit hv
  have h : StaysChecked s 128 t := staysChecked_range s 128
  have hframe : RecordsOnly s t := checkStays_records s
  refine ⟨fun n v hv hl => h.late n v (h128 hv) hv ((hlate v).2 hl),
    fun n hn => h.kept n (.inr fun v hv => htime v (hn v hv)), ?_,
    fun hnone => h.idle fun n v _ hv => htime v (hnone n v hv), h.others, h.service, h.accounts, h.nextTicket,
    hframe.decks, hframe.gates⟩
  intro n v l hv hl hlast
  exact h.pending n v l (h128 hv) hv ((hlate v).2 hl) fun m u _ hu ho => hlast m u hu ((hlate u).1 ho)

end Sys2Proof.Machine
end

section
/-! PROOFS. What the session's entries do to the gates of its deck, and the undo of its visit (R46, R63, R122, R127 to
R129). -/

namespace Sys2Proof.Machine

/-! ### Requests that follow a pass flag -/

@[simp] theorem perGate_set_set {α : Type} (p : PerGate α) (g : GateId) (x y : α) : (p.set g x).set g y = p.set g y := by
  cases g <;> rfl

@[simp] theorem setGate_setGate (s : State) (g : GateId) (x y : Gate) : (s.setGate g x).setGate g y = s.setGate g y := by
  simp only [State.setGate, perGate_set_set]

theorem setPass_sendRaise (s : State) (g : GateId) (b : Bool) (o : Origin) :
    (s.setPass g b).sendRaise g o = s.setGate g ({ s.gate g with pass := b }.raiseRequest s.now o) := by
  rw [State.sendRaise, State.setPass, gate_setGate, if_pos rfl, setGate_setGate]
  rfl

theorem setPass_sendLower (s : State) (g : GateId) (b : Bool) (o : Origin) :
    (s.setPass g b).sendLower g o = s.setGate g ({ s.gate g with pass := b }.lowerRequest s.now o) := by
  rw [State.sendLower, State.setPass, gate_setGate, if_pos rfl, setGate_setGate]
  rfl

/-- The entry into VACANT clears the pass flags of both gates (R129). -/
theorem vacate_eq (s : State) (d : DeckId) : s.vacate d =
    ((s.setGate (d.gate .road) { s.gate (d.gate .road) with pass := false }).setGate (d.gate .yard)
      { s.gate (d.gate .yard) with pass := false }).setDeck d { s.deck d with session := none } := by
  simp only [State.vacate, State.setPass, gate_setGate, if_neg (yard_gate_ne_road d)]
  rfl

/-! ### The undo -/

/-- A visit that enters ON_SITE past its max stay is flagged in the same event, with OVER_STAY (R46, R63). -/
theorem enterOnSite_eq {s : State} {n : Nat} {u v : Visit} {w : Weighing} {late : Prop} [Decidable late]
    (hu : s.visit n = some u) (hon : ∀ x, u.state ≠ .onSite x) (hv : v.state = .onSite w)
    (hlate : late ↔ v.overStay = false ∧ v.opened.toNat + s.service.maxStay * 3600 < s.service.clock.toNat) :
    s.enterOnSite n v =
      let t : State := { s with register := { s.register with
        slots := s.register.slots.set n ⟨(s.slot n).revision + 1, some { v with overStay := v.overStay || decide late }⟩ } }
      if late then t.raise .overStay (.slot n) else t := by
  have hover : s.overdue v = true ↔ late := by
    rw [overdue_iff, hlate]
    exact and_iff_right ⟨w, hv⟩
  have hne {x : Visit} (hx : x.state = .onSite w) : s.visit n ≠ some x := by
    rintro hsame
    obtain rfl := Option.some.inj (hu.symm.trans hsame)
    exact hon w hx
  by_cases hl : late
  · rw [State.enterOnSite, if_pos (hover.2 hl), writeSlot_of_ne (hne (x := { v with overStay := true }) hv)]
    simp only [if_pos hl, decide_eq_true hl, Bool.or_true]
  · rw [State.enterOnSite, if_neg (hover.not.2 hl), writeSlot_of_ne (hne hv)]
    simp only [if_neg hl, decide_eq_false hl, Bool.or_false]

/-- The undo of an ARRIVING visit frees its slot and takes it off its account's count (R46). -/
theorem undo_arriving {s : State} {n : Nat} {u : Visit} {e : DeckId} (hu : s.visit n = some u)
    (hst : u.state = .arriving e) : s.undo n = { s with
      register := { s.register with slots := s.register.slots.set n ⟨(s.slot n).revision + 1, none⟩ }
      accounts := s.accounts.map fun x => if u.account = some x.number then { x with count := x.count - 1 } else x } := by
  simp only [State.undo, hu, hst]
  rw [writeSlot_of_ne (by rw [hu]; exact nofun), countDown_eq]

theorem undo_departing {s : State} {n : Nat} {u : Visit} {e : DeckId} {w : Weighing} (hu : s.visit n = some u)
    (hst : u.state = .departing e w) : s.undo n = s.enterOnSite n { u with state := .onSite w } := by
  simp only [State.undo, hu, hst]

/-- Settles O40: each entry is a pass flag and a request at one gate and the deck's record; the undo by its visit's state. -/
theorem sessionEntriesActOnTheGates : Obligations.SessionEntriesActOnTheGates := by
  intro s d v
  refine ⟨?_, ?_, ?_, vacate_eq s d, fun n u hu => ⟨fun e hst => undo_arriving hu hst, fun e w hst => ?_⟩⟩
  · rw [State.enterOnDeck, setPass_sendLower]
    rfl
  · rw [State.enterReleased, setPass_sendRaise]
    rfl
  · rw [State.enterClearing, setPass_sendLower]
    rfl
  · rw [undo_departing hu hst]
    exact enterOnSite_eq hu (by rw [hst]; exact nofun) rfl Iff.rfl

end Sys2Proof.Machine
end

section
/-! PROOFS. MANUAL_CAPTURE and what a capture does with the visit of its slot (R43, R47, R48, R63, R125 to R127). -/

namespace Sys2Proof.Machine

/-! ### MANUAL_CAPTURE (R126) -/

theorem takesWeight_iff {k : Deck} {r : CalRecord} (hr : k.cal.record = some r) (w : Int) :
    k.takesWeight w = true ↔ 0 ≤ w ∧ w ≤ r.max ∧ (r.division : Int) ∣ w := by
  simp only [Deck.takesWeight, hr, decide_eq_true_eq, Int.dvd_iff_emod_eq_zero]

theorem takesWeight_without_record {k : Deck} (hr : k.cal.record = none) (w : Int) : k.takesWeight w = false := by
  simp only [Deck.takesWeight, hr]

/-- MANUAL_CAPTURE in its order: the deck, the session and its state, the weight (R126; log 22). -/
theorem exec_manualCapture {s : State} (b : Byte) (weight : BitVec 32) (h : s.listening) :
    exec (.manualCapture b weight) s = .next (match deckOf b with
      | none => s.answered Code.manualCapture .outOfRange
      | some d => match (s.deck d).session with
        | none => s.answered Code.manualCapture .wrongState
        | some v =>
          if v.stage ≠ .onDeck then s.answered Code.manualCapture .wrongState
          else if (s.deck d).takesWeight weight.toInt = true then
            (s.captureInto d v ⟨weight.toInt, d, s.service.clock, .manual⟩).answered Code.manualCapture .done
              (.captured v.slot (s.capture v.slot d ⟨weight.toInt, d, s.service.clock, .manual⟩).2)
          else s.answered Code.manualCapture .outOfRange) := by
  change request Code.manualCapture _ s = _
  cases hd : deckOf b with
  | none => exact request_bare h (rfl)
  | some d =>
    dsimp only
    cases hs : (s.deck d).session with
    | none => exact request_bare h (by simp only [hs])
    | some v =>
      dsimp only
      by_cases hstage : v.stage ≠ .onDeck
      · rw [if_pos hstage]
        exact request_bare h (by simp only [hs, if_pos hstage])
      · rw [if_neg hstage]
        cases hw : (s.deck d).takesWeight weight.toInt with
        | false => exact request_bare h (by simp only [hs, if_neg hstage, hw]; rfl)
        | true => exact request_answers h (by simp only [hs, if_neg hstage, hw]; rfl)

/-! ### The weighings of a close (R43, R48) -/

/-- The stored tare of a one-pass capture: a tagged delivery whose entry holds one that is valid on the day (R68, R125). -/
theorem onePassTare_eq_some_iff {s : State} {u : Visit} {x : Tare} : s.onePassTare u = some x ↔
    u.direction = .deliver ∧ ∃ g e, u.tag = some g ∧ s.vehicle g = some e ∧ e.tare = some x ∧
      x.day ≤ dayOf s.service.clock ∧ dayOf s.service.clock - x.day < e.validity := by
  have hvalid (e : Vehicle) : (if e.tareValid (dayOf s.service.clock) then e.tare else none) = some x ↔
      e.tare = some x ∧ x.day ≤ dayOf s.service.clock ∧ dayOf s.service.clock - x.day < e.validity := by
    unfold Vehicle.tareValid
    cases e.tare with
    | none => simp
    | some y => simp; grind
  unfold State.onePassTare
  cases hdir : u.direction with
  | collect => simp
  | deliver =>
    cases htag : u.tag with
    | none => simp
    | some g => cases hveh : s.vehicle g with
      | none => simp [hveh]
      | some e => simp [hveh, hvalid]

theorem heldReason_lowNet {net : Int} {eMax : Nat} (h0 : 0 ≤ net) (h : net < 20 * (eMax : Int)) :
    heldReason net eMax = some .lowNet := by
  rw [heldReason, if_neg (not_lt.2 h0), if_pos h]

section Close

variable {s : State} {n : Nat} {d : DeckId} {x : Visit} {a b : Weighing}

theorem closeAtCapture_closes (h : 20 * (s.eMax a b : Int) ≤ netOf x.direction a b) :
    s.closeAtCapture n x d a b =
      ((s.closeRecord n x ⟨a, b, netOf x.direction a b, false, some d.printer, true⟩).serveBus, .closed) := by
  have hnone : heldReason (netOf x.direction a b) (s.eMax a b) = none := heldReason_eq_none_iff.2 (by omega)
  simp only [State.closeAtCapture, hnone, State.close]

theorem closeAtCapture_holds {why : HeldReason} (h : heldReason (netOf x.direction a b) (s.eMax a b) = some why) :
    s.closeAtCapture n x d a b = (s.hold n x a b (netOf x.direction a b) why, .held) := by
  simp only [State.closeAtCapture, h]

/-- A visit that was not HELD becomes HELD: off its account's count, with VISIT_HELD (R48). -/
theorem hold_eq {u : Visit} (hu : s.visit n = some u) (hnot : ∀ a b k r, u.state ≠ .held a b k r)
    (hx : x.account = u.account) (net : Int) (why : HeldReason) : s.hold n x a b net why = State.raise { s with
      register := { s.register with
        slots := s.register.slots.set n ⟨(s.slot n).revision + 1, some { x with state := .held a b net why }⟩ }
      accounts := s.accounts.map fun y => if u.account = some y.number then { y with count := y.count - 1 } else y }
      .visitHeld (.slot n) := by
  have hne : s.visit n ≠ some { x with state := .held a b net why } := by
    intro hsame
    obtain rfl := Option.some.inj (hu.symm.trans hsame)
    exact hnot a b net why rfl
  rw [State.hold, writeSlot_of_ne hne, countDown_eq, hx]

end Close

/-! ### The capture (R47, R125) -/

section Capture

variable {s : State} {n : Nat} {d e : DeckId} {u : Visit} {w : Weighing}

theorem capture_onePass {x : Tare} (hu : s.visit n = some u) (hst : u.state = .arriving e)
    (hx : s.onePassTare u = some x) :
    s.capture n d w = s.closeAtCapture n { u with onePass := true } d w x.weighing := by
  simp only [State.capture, hu, hst, hx]

theorem capture_first (hu : s.visit n = some u) (hst : u.state = .arriving e) (hx : s.onePassTare u = none) :
    s.capture n d w = (s.enterOnSite n { u with state := .onSite w }, .onSite) := by
  simp only [State.capture, hu, hst, hx]

theorem capture_second {first : Weighing} (hu : s.visit n = some u) (hst : u.state = .departing e first) :
    s.capture n d w = s.closeAtCapture n u d first w := by
  simp only [State.capture, hu, hst]

/-- The vehicle of a captured visit is released with the outcome of the capture (R125, R127). -/
theorem capture_releases {v : Serving} {t : State} {o : VisitOutcome} (h : s.capture v.slot d w = (t, o)) :
    s.capture v.slot d w = (t, o) ∧ s.captureInto d v w = t.enterReleased d { v with outcome := o } :=
  ⟨h, by rw [State.captureInto, h]⟩

end Capture

/-- Settles O41: the request, then the capture by the state of the visit, the stored tare and the net. -/
theorem capturesSettleTheVisit : Obligations.CapturesSettleTheVisit := by
  refine ⟨fun s b weight h => ?_, fun s d v w u hu => ?_⟩
  · rw [exec_manualCapture b weight h]
    cases deckOf b with
    | none => rfl
    | some d =>
      dsimp only
      cases (s.deck d).session with
      | none => rfl
      | some v =>
        dsimp only
        cases hr : (s.deck d).cal.record with
        | none =>
          rw [takesWeight_without_record hr]
          rfl
        | some r => simp only [takesWeight_iff hr]
  · intro n today after put finish tare
    have hfinish (x : Visit) (a b : Weighing) (hx : x.account = u.account)
        (hopen : ∀ a b k r, u.state ≠ .held a b k r) (hc : s.capture n d w = s.closeAtCapture n x d a b) :
        finish x a b := by
      have hmax := eMax_cast s a b
      have hheld (why : HeldReason) (hwhy : heldReason (netOf x.direction a b) (s.eMax a b) = some why) :
          s.capture n d w = (_, .held) :=
        (hc.trans (closeAtCapture_holds hwhy)).trans (congrArg (·, VisitOutcome.held) (hold_eq hu hopen hx _ why))
      refine ⟨fun hneg => capture_releases (hheld .negativeNet (if_pos hneg)),
        fun hpos hlow => capture_releases (hheld .lowNet (heldReason_lowNet hpos (hmax ▸ hlow))),
        fun hhigh => capture_releases (hc.trans (closeAtCapture_closes (hmax ▸ hhigh)))⟩
    have htare (x : Tare) : s.onePassTare u = some x ↔ tare x := onePassTare_eq_some_iff
    refine ⟨fun e hst => ⟨fun x hx => ?_, fun hnone => ?_⟩, fun e first hst => ?_⟩
    · exact hfinish _ _ _ rfl (by rw [hst]; exact nofun) (capture_onePass hu hst ((htare x).2 hx))
    · have hno : s.onePassTare u = none :=
        Option.eq_none_iff_forall_not_mem.2 fun x hx => hnone x ((htare x).1 hx)
      refine capture_releases ((capture_first hu hst hno).trans ?_)
      exact congrArg (·, VisitOutcome.onSite) (enterOnSite_eq hu (by rw [hst]; exact nofun) rfl Iff.rfl)
    · exact hfinish _ _ _ rfl (by rw [hst]; exact nofun) (capture_second hu hst)

end Sys2Proof.Machine
end

section
/-! PROOFS. The arbiter's decision of a call: refused, held at its gate, or taken with its visit opened or departed and
the session set up (R45, R46, R115, R116, R119 to R121). -/

namespace Sys2Proof.Machine

/-! ### The cases of R115 -/

theorem callBarred_iff (s : State) (d : DeckId) : s.callBarred d = true ↔ s.emergency.latch = true ∨
    (s.deck d).unit.reading.availability = .fault ∨ (s.deck d).unit.reading.availability = .uncalibrated := by
  simp only [State.callBarred, Bool.or_eq_true, beq_iff_eq, or_assoc]

theorem callHeld_iff (s : State) (g : GateId) : s.callHeld g = true ↔ (s.deck g.deck).session ≠ none ∨
    (s.gate g).locked = true ∨ (s.deck g.deck).unit.reading.availability = .warming ∨
      (s.deck g.deck).unit.reading.availability = .asleep ∨ (s.deck g.deck).loaded = true := by
  simp only [State.callHeld, Bool.or_eq_true, beq_iff_eq, or_assoc, Option.isSome_iff_ne_none]

/-- What a call that is refused leaves and answers: CALL_REFUSED with its gate and reason (R115). -/
def State.refuseCall (s : State) (g : GateId) (r : CallReason) : State × Decision :=
  (s.raise .callRefused (.refusal g r), .refused r)

section Cases

variable {s t : State} {g : GateId} {f : CallForm}

theorem arbitrateCall_unavailable (h : s.judgeCall g f = (s, .unavailable)) :
    s.arbitrateCall g f = (s.raise .callRefused (.refusal g .deckUnavailable), .unavailable) := by
  simp only [State.arbitrateCall, h, State.noteRefusal, Decision.reason]

theorem arbitrateCall_waits (h : s.judgeCall g f = (s, .waits)) : s.arbitrateCall g f = (s.holdCall g f, .waits) := by
  simp only [State.arbitrateCall, h]

theorem arbitrateCall_refused {r : CallReason} (h : s.judgeCall g f = (s, .refused r)) :
    s.arbitrateCall g f = s.refuseCall g r := by
  simp only [State.arbitrateCall, h, State.noteRefusal, Decision.reason, State.refuseCall]

theorem arbitrateCall_taken {n : Nat} (h : s.judgeCall g f = (t, .taken n)) : s.arbitrateCall g f = (t, .taken n) := by
  simp only [State.arbitrateCall, h, State.noteRefusal, Decision.reason]

theorem judgeCall_barred (hb : s.callBarred g.deck = true) : s.judgeCall g f = (s, .unavailable) := by
  rw [State.judgeCall, if_pos hb]

theorem judgeCall_held (hb : ¬ s.callBarred g.deck = true) (hh : s.callHeld g = true) :
    s.judgeCall g f = (s, .waits) := by
  rw [State.judgeCall, if_neg hb, if_pos hh]

theorem judgeCall_faulted (hb : ¬ s.callBarred g.deck = true) (hh : ¬ s.callHeld g = true)
    (hf : (s.gate g).barrier = .fault) : s.judgeCall g f = (s, .unavailable) := by
  rw [State.judgeCall, if_neg hb, if_neg hh, if_pos hf]

theorem judgeCall_takes (hb : ¬ s.callBarred g.deck = true) (hh : ¬ s.callHeld g = true)
    (hf : (s.gate g).barrier ≠ .fault) : s.judgeCall g f = s.takeCall g f := by
  rw [State.judgeCall, if_neg hb, if_neg hh, if_neg hf]

/-- A held call becomes, refreshes or replaces the waiting call of its gate (R116). -/
theorem holdCall_eq (s : State) (g : GateId) (f : CallForm) {same : CallForm → Bool}
    (hsame : ∀ a, same a = a.sameIdentity f) : s.holdCall g f =
      let due := s.now + (s.deck g.deck).times.callWait * 1000000
      s.setGate g { s.gate g with waiting := some (match (s.gate g).waiting with
        | some c => if same c.form = true then { c with due := due } else ⟨f, s.now / 1000, due⟩
        | none => ⟨f, s.now / 1000, due⟩) } := by
  obtain rfl : same = (·.sameIdentity f) := funext hsame
  rfl

end Cases

/-! ### The session of a taken call (R121) -/

theorem setUpSession_eq {s t : State} (h : RecordsOnly s t) {g : GateId} {heading : Heading} {a b : GateEnd} (n : Nat)
    (hg : g.side = a)
    (hends : (heading = .inbound ∧ a = .road ∧ b = .yard) ∨ (heading = .outbound ∧ a = .yard ∧ b = .road)) :
    t.setUpSession g.deck heading n =
      (t.setGate g ({ s.gate g with pass := true }.raiseRequest s.now .session)).setDeck g.deck
        { s.deck g.deck with session := some {
          stage := if (s.gate g).occupied = true then .boarding else .called, heading := heading, entryEnd := a
          releaseEnd := b, slot := n, outcome := .pending, accepted := s.service.clock
          boardDue := if (s.gate g).occupied = true then none
            else some (s.now + (s.deck g.deck).times.boardTime * 1000000)
          captureDue := none, clearMark := false, waiver := false } } := by
  have hat : g.deck.gate a = g := hg ▸ deck_gate_side g
  rw [← gate_congr h.gates g, ← deck_congr h.decks g.deck, ← h.now, ← h.service]
  rcases hends with ⟨rfl, rfl, rfl⟩ | ⟨rfl, rfl, rfl⟩ <;>
  · dsimp only [State.setUpSession]
    rw [hat, setPass_sendRaise]
    rfl

/-! ### The checks of an inbound call (R119) -/

theorem isSome_findSlot (s : State) (p : Visit → Bool) :
    (s.findSlot p).isSome = s.register.slots.any fun sl => sl.visit.any p := List.findIdx?_isSome

theorem any_openTag_or_openPlate (s : State) (t : Tag) (p : Plate) :
    ((s.findSlot (Visit.openTag t)).isSome || (s.findSlot (Visit.openPlate p)).isSome) =
      s.register.slots.any fun sl => sl.visit.any fun v => v.isOpen && (v.tag == some t || v.plate == p) := by
  have hor (sl : Slot) : (sl.visit.any fun v => v.isOpen && (v.tag == some t || v.plate == p)) =
      (sl.visit.any (Visit.openTag t) || sl.visit.any (Visit.openPlate p)) := by
    cases sl.visit with
    | none => rfl
    | some v => exact Bool.and_or_distrib_left _ _ _
  simp only [isSome_findSlot, hor]
  rw [Bool.eq_iff_iff]
  simp only [Bool.or_eq_true, List.any_eq_true]
  grind

theorem freeCount_eq_zero_iff (s : State) : s.freeCount = 0 ↔ s.lowestFree = none := by
  simp only [State.freeCount, State.lowestFree, List.countP_eq_zero, List.findIdx?_eq_none_iff, Bool.not_eq_true]

theorem visit_lowestFree {s : State} {n : Nat} (h : s.lowestFree = some n) : s.visit n = none := by
  obtain ⟨hn, hfree, -⟩ := List.findIdx?_eq_some_iff_getElem.1 h
  rw [State.visit, State.slot, List.getD_eq_getElem _ _ hn]
  exact Option.isNone_iff_eq_none.1 hfree

section Entry

variable {s : State} {g : GateId} {f : CallForm} {o : Opening} {bar : Bool}

/-- The open of a visit in the lowest FREE slot, and YARD_NEARLY_FULL where it leaves eight free (R45). -/
theorem openIn_eq {n : Nat} (hn : s.lowestFree = some n) (o : Opening) (d : DeckId) : s.openIn n o d =
    let u : State := { s with
      register := { s.register with
        slots := s.register.slots.set n ⟨(s.slot n).revision + 1, some (o.visit d s.service.clock)⟩ }
      accounts := s.accounts.map fun a => if o.account = some a.number then { a with count := a.count + 1 } else a }
    if s.freeCount = 9 then u.raise .yardNearlyFull (.freeCount 8) else u := by
  have hne : s.visit n ≠ some (o.visit d s.service.clock) := by
    rw [visit_lowestFree hn]
    exact nofun
  rw [State.openIn, writeSlot_of_ne hne, countUp_eq]

/-! The entry checks in their order (R85). -/

theorem entryCheck_barred (k : Nat) (dir : Direction) (a : Option AccountNo) :
    s.entryCheck true k dir a = some .vehicleBarred := rfl

section Checks

variable {k : Nat} {dir : Direction} {a : Option AccountNo}

theorem entryCheck_closedKind (hbar : bar = false)
    (hk : ¬ ((s.kind k).accepted = true ∧ (s.kind k).allows dir = true)) :
    s.entryCheck bar k dir a = some .kindClosed := by
  have hclosed : (!((s.kind k).accepted && (s.kind k).allows dir)) = true := by
    rwa [Bool.not_eq_true', ← Bool.not_eq_true, Bool.and_eq_true]
  rw [State.entryCheck, hbar, if_neg Bool.false_ne_true, if_pos hclosed]

theorem entryCheck_account (hbar : bar = false)
    (hk : (s.kind k).accepted = true ∧ (s.kind k).allows dir = true) :
    s.entryCheck bar k dir a = (s.accountCheck a).or (if s.lowestFree = none then some .yardFull else none) := by
  obtain ⟨haccepted, hallows⟩ := hk
  simp only [State.entryCheck, hbar, haccepted, hallows, freeCount_eq_zero_iff]
  cases s.accountCheck a <;> rfl

end Checks

/-- What an inbound call that passes the tag and plate checks comes to, `opened` being its state when taken (R85, R119). -/
def State.entered (s : State) (g : GateId) (bar : Bool) (o : Opening) (opened : Nat → State) : State × Decision :=
  if bar = true then s.refuseCall g .vehicleBarred
  else if ¬ ((s.kind o.kind).accepted = true ∧ (s.kind o.kind).allows o.direction = true) then
    s.refuseCall g .kindClosed
  else match s.accountCheck o.account with
    | some r => s.refuseCall g r
    | none => match s.lowestFree with
      | none => s.refuseCall g .yardFull
      | some n => (opened n, .taken n)

theorem takeCall_refusesEntry {r : CallReason} (hside : g.side = .road) (h : s.inboundCheck f = .error r) :
    s.takeCall g f = (s, .refused r) := by
  simp only [State.takeCall, hside, h]

theorem takeCall_opens {n : Nat} (hside : g.side = .road) (h : s.inboundCheck f = .ok o) (hn : s.lowestFree = some n) :
    s.takeCall g f = ((s.openIn n o g.deck).setUpSession g.deck .inbound n, .taken n) := by
  simp only [State.takeCall, hside, h, hn]

theorem arbitrateCall_entered (htake : s.judgeCall g f = s.takeCall g f) (hside : g.side = .road)
    (herror : ∀ r, s.entryCheck bar o.kind o.direction o.account = some r → s.inboundCheck f = .error r)
    (hok : s.entryCheck bar o.kind o.direction o.account = none → s.inboundCheck f = .ok o) {opened : Nat → State}
    (hopened : ∀ n, s.lowestFree = some n → (s.openIn n o g.deck).setUpSession g.deck .inbound n = opened n) :
    s.arbitrateCall g f = s.entered g bar o opened := by
  have hrefused {r : CallReason} (hr : s.entryCheck bar o.kind o.direction o.account = some r) :
      s.arbitrateCall g f = s.refuseCall g r :=
    arbitrateCall_refused (htake.trans (takeCall_refusesEntry hside (herror _ hr)))
  unfold State.entered
  cases bar with
  | true => exact hrefused (entryCheck_barred _ _ _)
  | false =>
    rw [if_neg Bool.false_ne_true]
    by_cases hkind : (s.kind o.kind).accepted = true ∧ (s.kind o.kind).allows o.direction = true
    · rw [if_neg (not_not.2 hkind)]
      have hcheck := entryCheck_account (a := o.account) rfl hkind
      cases hacc : s.accountCheck o.account with
      | some r => exact hrefused (by rw [hcheck, hacc, Option.some_or])
      | none =>
        rw [hacc, Option.none_or] at hcheck
        cases hfree : s.lowestFree with
        | none => exact hrefused (by rw [hcheck, if_pos hfree])
        | some n =>
          rw [if_neg (by rw [hfree]; exact nofun)] at hcheck
          dsimp only
          rw [← hopened n hfree]
          exact arbitrateCall_taken (htake.trans (takeCall_opens hside (hok hcheck) hfree))
    · rw [if_pos hkind]
      exact hrefused (entryCheck_closedKind rfl hkind)

end Entry

/-! ### The checks of an outbound call (R120) -/

section Leave

variable {s : State} {g : GateId} {f : CallForm} {n : Nat}

theorem outboundCheck_tag {t : Tag} (h : s.findSlot (Visit.openTag t) = some n) :
    s.outboundCheck (.tag t) = s.outboundCheck (.slot n) := by
  simp only [State.outboundCheck, h]

theorem outboundCheck_tag_none {t : Tag} (h : s.findSlot (Visit.openTag t) = none) :
    s.outboundCheck (.tag t) = .error .noVisit := by
  simp only [State.outboundCheck, h]

/-- The depart of an ON_SITE visit (R46). -/
theorem depart_eq {v : Visit} {w : Weighing} (hv : s.visit n = some v) (hst : v.state = .onSite w) (d : DeckId) :
    s.depart n d = { s with register := { s.register with
      slots := s.register.slots.set n ⟨(s.slot n).revision + 1, some { v with state := .departing d w }⟩ } } := by
  have hne : s.visit n ≠ some { v with state := .departing d w } := by
    intro hsame
    have hstate := congrArg Visit.state (Option.some.inj (hv.symm.trans hsame))
    rw [hst] at hstate
    cases hstate
  simp only [State.depart, hv, hst]
  rw [writeSlot_of_ne hne]

/-- What an outbound call for a slot comes to, `departed` being its state when taken (R120). -/
def State.left (s : State) (g : GateId) (n : Nat) (departed : Visit → Weighing → State) : State × Decision :=
  match s.visit n with
  | none => s.refuseCall g .noVisit
  | some v => match v.state with
    | .onSite w => (departed v w, .taken n)
    | .arriving _ | .departing _ _ => s.refuseCall g .visitBusy
    | _ => s.refuseCall g .noVisit

theorem takeCall_refusesLeave {r : CallReason} (hside : g.side = .yard) (h : s.outboundCheck f = .error r) :
    s.takeCall g f = (s, .refused r) := by
  simp only [State.takeCall, hside, h]

theorem takeCall_departs (hside : g.side = .yard) (h : s.outboundCheck f = .ok n) :
    s.takeCall g f = ((s.depart n g.deck).setUpSession g.deck .outbound n, .taken n) := by
  simp only [State.takeCall, hside, h]

theorem name_of_free (hv : s.visit n = none) : (s.slot n).name = .free := by
  rw [State.visit] at hv
  simp only [Slot.name, hv]

theorem name_of_visit {v : Visit} (hv : s.visit n = some v) : (s.slot n).name = v.state.name := by
  rw [State.visit] at hv
  simp only [Slot.name, hv]

theorem arbitrateCall_left (htake : s.judgeCall g f = s.takeCall g f) (hside : g.side = .yard)
    (h : s.outboundCheck f = s.outboundCheck (.slot n)) {departed : Visit → Weighing → State}
    (hdeparted : ∀ v w, s.visit n = some v → v.state = .onSite w →
      (s.depart n g.deck).setUpSession g.deck .outbound n = departed v w) :
    s.arbitrateCall g f = s.left g n departed := by
  have hrefused {r : CallReason} (hr : s.outboundCheck f = .error r) : s.arbitrateCall g f = s.refuseCall g r :=
    arbitrateCall_refused (htake.trans (takeCall_refusesLeave hside hr))
  unfold State.left
  cases hv : s.visit n with
  | none => exact hrefused (by rw [h]; simp only [State.outboundCheck, name_of_free hv])
  | some v =>
    dsimp only
    cases hst : v.state with
    | onSite w =>
      dsimp only
      rw [← hdeparted v w hv hst]
      refine arbitrateCall_taken (htake.trans (takeCall_departs hside ?_))
      rw [h]
      simp only [State.outboundCheck, name_of_visit hv, hst, VisitState.name]
    | arriving | departing | held | closed => 
      exact hrefused (by rw [h]; simp only [State.outboundCheck, name_of_visit hv, hst, VisitState.name])

end Leave

/-- Settles O38: by the cases of R115, then the checks of an inbound or an outbound call. -/
theorem arbiterDecidesCalls : Obligations.ArbiterDecidesCalls := by
  intro s g f d k x barred held refuse due same waiting anyOpen setUp enter leave
  have hbarred : s.callBarred g.deck = true ↔ barred := callBarred_iff s g.deck
  have hheld : s.callHeld g = true ↔ held := callHeld_iff s g
  refine ⟨fun hb => arbitrateCall_unavailable (judgeCall_barred (hbarred.2 hb)), fun hb hh => ?_, fun hb hh hf => ?_,
    fun hb hh hf => ?_⟩
  · have hsame (a : CallForm) : same a = a.sameIdentity f := by cases a <;> cases f <;> rfl
    exact (arbitrateCall_waits (judgeCall_held (hbarred.not.2 hb) (hheld.2 hh))).trans
      (congrArg (·, Decision.waits) (holdCall_eq s g f hsame))
  · exact arbitrateCall_unavailable (judgeCall_faulted (hbarred.not.2 hb) (hheld.not.2 hh) hf)
  have htake (f' : CallForm) : s.judgeCall g f' = s.takeCall g f' :=
    judgeCall_takes (hbarred.not.2 hb) (hheld.not.2 hh) hf
  have henter (bar : Bool) (o : Opening) (hside : g.side = .road)
      (herror : ∀ r, s.entryCheck bar o.kind o.direction o.account = some r → s.inboundCheck f = .error r)
      (hok : s.entryCheck bar o.kind o.direction o.account = none → s.inboundCheck f = .ok o) :
      s.arbitrateCall g f = enter bar o := by
    refine arbitrateCall_entered (htake f) hside herror hok fun n hn => ?_
    rw [setUpSession_eq (openIn_records s n o g.deck) n hside (.inl ⟨rfl, rfl, rfl⟩), openIn_eq hn]
    rfl
  have hleave (n : Nat) (hside : g.side = .yard) (h : s.outboundCheck f = s.outboundCheck (.slot n)) :
      s.arbitrateCall g f = leave n := by
    refine arbitrateCall_left (htake f) hside h fun v w hv hst => ?_
    rw [setUpSession_eq (depart_records s n g.deck) n hside (.inr ⟨rfl, rfl, rfl⟩), depart_eq hv hst]
  have hrefused {r : CallReason} (hside : g.side = .road) (h : s.inboundCheck f = .error r) :
      s.arbitrateCall g f = refuse r (.refused r) :=
    arbitrateCall_refused ((htake f).trans (takeCall_refusesEntry hside h))
  refine ⟨?_, ?_, ?_, fun n hside hslot => hleave n hside (by rw [hslot])⟩
  · rintro t hside rfl
    cases hveh : s.vehicle t with
    | none => exact hrefused hside (by simp only [State.inboundCheck, hveh])
    | some e =>
      dsimp only
      have hany := any_openTag_or_openPlate s t e.plate
      split
      · next hopen => exact hrefused hside (by simp only [State.inboundCheck, hveh, if_pos (hany.trans hopen)])
      · next hopen =>
        have hnot := fun h => hopen (hany.symm.trans h)
        exact henter e.barred ⟨some t, e.plate, some e.account, e.kind, e.direction⟩ hside
          (fun r hr => by simp only [State.inboundCheck, hveh, if_neg hnot, hr])
          fun hr => by simp only [State.inboundCheck, hveh, if_neg hnot, hr]
  · rintro p a c dir hside rfl
    have hany := isSome_findSlot s (Visit.openPlate p)
    split
    · next hopen => exact hrefused hside (by simp only [State.inboundCheck, if_pos (hany.trans hopen)])
    · next hopen =>
      have hnot := fun h => hopen (hany.symm.trans h)
      exact henter false ⟨none, p, a, c, dir⟩ hside (fun r hr => by simp only [State.inboundCheck, if_neg hnot, hr])
        fun hr => by simp only [State.inboundCheck, if_neg hnot, hr]
  · rintro t hside rfl
    change _ = match s.findSlot (Visit.openTag t) with
      | none => refuse .noVisit (.refused .noVisit)
      | some n => leave n
    cases hfound : s.findSlot (Visit.openTag t) with
    | none =>
      exact arbitrateCall_refused ((htake _).trans (takeCall_refusesLeave hside (outboundCheck_tag_none hfound)))
    | some n => exact hleave n hside (outboundCheck_tag hfound)

end Sys2Proof.Machine
end

section
/-! PROOFS. The books (R74, R75): the account that an open visit in a slot carries, the number on site of an account
after the write of a slot, and the laws of the accounts through a write that moves the counts with it. -/

namespace Sys2Proof.Machine

/-! ### The account on site -/

/-- The account that an open visit in a slot carries (R75). -/
def openAccount (x : Option Visit) : Option AccountNo := x.bind fun v => if v.isOpen then v.account else none

/-- What an account on site adds to the count of an account: one to its own (R75). -/
def addsTo (o : Option AccountNo) (n : AccountNo) : Nat := if o = some n then 1 else 0

theorem openAccount_of_open {v : Visit} (h : v.isOpen = true) : openAccount (some v) = v.account := if_pos h

theorem openAccount_of_not_open {v : Visit} (h : v.isOpen = false) : openAccount (some v) = none :=
  if_neg (by rw [h]; exact Bool.false_ne_true)

theorem openAccount_eq_some_iff {x : Option Visit} {n : AccountNo} :
    openAccount x = some n ↔ ∃ v, x = some v ∧ v.isOpen = true ∧ v.account = some n := by
  cases x with
  | none => simp [openAccount]
  | some v => simp [openAccount]

/-- The number on site of an account is that of the slots whose open visit carries it (R75). -/
theorem openOn_eq_countP (s : State) (n : AccountNo) :
    s.openOn n = s.register.slots.countP fun sl => decide (openAccount sl.visit = some n) := by
  refine List.countP_congr fun sl _ => ?_
  rw [decide_eq_true_iff, openAccount_eq_some_iff, Option.any_eq_true]
  simp

/-- The number on site after the write of a slot: less what the slot held, and more what it holds (R75). -/
theorem openOn_writeSlot {s : State} {n : Nat} (hn : n < s.register.slots.length) (x : Option Visit) (m : AccountNo) :
    (s.writeSlot n x).openOn m + addsTo (openAccount (s.visit n)) m = s.openOn m + addsTo (openAccount x) m := by
  have hslot : s.register.slots[n].visit = s.visit n := by rw [State.visit, State.slot, List.getD_eq_getElem _ _ hn]
  have hle := List.boole_getElem_le_countP (p := fun sl : Slot => decide (openAccount sl.visit = some m)) hn
  rw [writeSlot_eq_set, openOn_eq_countP, openOn_eq_countP, List.countP_set hn]
  simp only [addsTo, write_visit, decide_eq_true_iff, hslot] at hle ⊢
  omega

theorem addsTo_le_openOn {s : State} {n : Nat} (hn : n < s.register.slots.length) (m : AccountNo) :
    addsTo (openAccount (s.visit n)) m ≤ s.openOn m := by
  have hwrite := openOn_writeSlot hn none m
  simp only [addsTo, openAccount, Option.bind_none, reduceCtorEq, if_false] at hwrite ⊢
  omega

theorem account_isSome_iff {s : State} {n : AccountNo} :
    (s.account n).isSome = true ↔ ∃ a ∈ s.accounts, a.number = n := by
  simp [State.account, List.find?_isSome]

/-! ### The laws of the accounts -/

/-- What every step keeps of the accounts: the on-site counts, and an ACTIVE account above its floor (R74, R75). -/
def AccountLaws (s : State) : Prop := CountsLaw s ∧ CreditLaw s

/-- `t` has the slots and the accounts of `s`. -/
structure SameBooks (s t : State) : Prop where
  slots : t.register.slots = s.register.slots
  accounts : t.accounts = s.accounts

/-- A change of the accounts that keeps an ACTIVE one above its floor and turns the counts of a yard with one account on
site into those with another in its place (R74, R75). -/
structure Moves (f : Account → Account) (before after : Option AccountNo) : Prop where
  number : ∀ a, (f a).number = a.number
  credit : ∀ a, (a.state = .active → a.floor < a.balance) → (f a).state = .active → (f a).floor < (f a).balance
  count : ∀ a, addsTo before a.number ≤ a.count →
    (f a).count + addsTo before a.number = a.count + addsTo after a.number

theorem Moves.refl (o : Option AccountNo) : Moves id o o := ⟨fun _ => rfl, fun _ h => h, fun _ _ => rfl⟩

theorem Moves.comp {f g : Account → Account} {x y z : Option AccountNo} (hg : Moves g y z) (hf : Moves f x y) :
    Moves (g ∘ f) x z := by
  refine ⟨fun a => (hg.number _).trans (hf.number a), fun a h => hg.credit _ (hf.credit a h), fun a hle => ?_⟩
  have hcount := hf.count a hle
  have hcount' := hg.count (f a) (by rw [hf.number]; omega)
  rw [hf.number] at hcount'
  rw [Function.comp_apply]
  omega

theorem countDown_moves (o : Option AccountNo) :
    Moves (fun a => if o = some a.number then { a with count := a.count - 1 } else a) o none where
  number a := by split <;> rfl
  credit a h := by split <;> exact h
  count a h := by
    unfold addsTo at h ⊢
    split <;> simp_all

theorem countUp_moves (o : Option AccountNo) :
    Moves (fun a => if o = some a.number then { a with count := a.count + 1 } else a) none o where
  number a := by split <;> rfl
  credit a h := by split <;> exact h
  count a _ := by
    unfold addsTo
    split <;> simp_all

/-- A close debits the account of its visit, stops it where that brings it to its floor, and takes a visit that was open
off its count (R75, R87). -/
theorem afterClose_moves (v : Visit) (fromOpen : Bool) (amount : Nat) :
    Moves (Account.afterClose v fromOpen amount) (if fromOpen = true then v.account else none) none where
  number a := afterClose_number v fromOpen amount a
  credit a h := by
    unfold Account.afterClose
    rw [debit_eq]
    split
    · dsimp only
      split
      · exact nofun
      · next hkept => exact fun hactive => not_le.1 fun hle => hkept ⟨hactive, hle⟩
    · exact h
  count a h := by
    unfold Account.afterClose
    rw [debit_eq]
    cases fromOpen <;> unfold addsTo at h ⊢ <;> split <;> simp_all

section Laws

variable {s t : State}

/-- A state with the slots and the accounts of another has its laws of the accounts. -/
theorem AccountLaws.same (hs : AccountLaws s) (h : SameBooks s t) : AccountLaws t := by
  obtain ⟨⟨hcounts, hopen⟩, hcredit⟩ := hs
  refine ⟨⟨fun a ha => ?_, fun i v n hv => ?_⟩, fun a ha => hcredit a (h.accounts ▸ ha)⟩
  · rw [State.openOn, h.slots]
    exact hcounts a (h.accounts ▸ ha)
  · rw [State.account, h.accounts]
    exact hopen i v n (visit_congr h.slots i ▸ hv)

theorem accountLaws_linkFree : LinkFree AccountLaws where
  link _ _ hs := hs.same ⟨rfl, rfl⟩
  port _ _ hs := hs.same ⟨rfl, rfl⟩

/-- The account of an open visit is there (R75). -/
theorem AccountLaws.known (hs : AccountLaws s) {n : Nat} {a : AccountNo} (h : openAccount (s.visit n) = some a) :
    (s.account a).isSome = true := by
  obtain ⟨v, hv, hopen, ha⟩ := openAccount_eq_some_iff.1 h
  exact hs.1.2 n v a hv hopen ha

/-- The write of a slot with the counts moved from the account its visit carried on site to the one it carries now. -/
theorem AccountLaws.transfer {n : Nat} {x : Option Visit} {f : Account → Account} (hs : AccountLaws s)
    (hn : n < s.register.slots.length) (hf : Moves f (openAccount (s.visit n)) (openAccount x))
    (hknown : ∀ a, openAccount x = some a → (s.account a).isSome = true)
    (hslots : t.register.slots = (s.writeSlot n x).register.slots) (haccounts : t.accounts = s.accounts.map f) :
    AccountLaws t := by
  have hlookup (a : AccountNo) (h : (s.account a).isSome = true) : (t.account a).isSome = true := by
    rwa [account_of_map haccounts hf.number, Option.isSome_map]
  refine ⟨⟨fun b hb => ?_, fun i v a hv hopen ha => hlookup a ?_⟩, fun b hb => ?_⟩
  · obtain ⟨a, ha, rfl⟩ := List.mem_map.1 (haccounts ▸ hb)
    have hcount := hs.1.1 a ha
    have hwrite := openOn_writeSlot hn x a.number
    have htotal : t.openOn a.number = (s.writeSlot n x).openOn a.number := by rw [State.openOn, hslots]; rfl
    have hmoved := hf.count a
    have hleast := addsTo_le_openOn hn a.number
    rw [hf.number]
    omega
  · rw [visit_congr hslots] at hv
    rcases visit_writeSlot_cases hv with ⟨-, hx⟩ | ⟨-, hv⟩
    · exact hknown a (openAccount_eq_some_iff.2 ⟨v, hx, hopen, ha⟩)
    · exact hs.1.2 i v a hv hopen ha
  · obtain ⟨a, ha, rfl⟩ := List.mem_map.1 (haccounts ▸ hb)
    exact hf.credit a (hs.2 a ha)

end Laws
end Sys2Proof.Machine
end

section
/-! PROOFS. The laws of the accounts through the operations of the yard (R74, R75): what leaves the slots and the
accounts as they are, the work of the register and of the printers, the close, the calls, and the sessions. -/

namespace Sys2Proof.Machine

variable {s : State}

/-- A property of both branches. -/
theorem keeps_ite {P : State → Prop} {c : Prop} [Decidable c] {t u : State} (ht : P t) (hu : P u) :
    P (if c then t else u) :=
  iteInduction (fun _ => ht) fun _ => hu

/-! ### What leaves the slots and the accounts -/

theorem SameBooks.refl (s : State) : SameBooks s s := ⟨rfl, rfl⟩

theorem SameBooks.trans {s t u : State} (h : SameBooks s t) (k : SameBooks t u) : SameBooks s u :=
  ⟨k.slots.trans h.slots, k.accounts.trans h.accounts⟩

theorem SameBooks.after {s t u : State} (k : SameBooks t u) (hslots : t.register.slots = s.register.slots)
    (haccounts : t.accounts = s.accounts) : SameBooks s u :=
  SameBooks.trans ⟨hslots, haccounts⟩ k

theorem noteRefusal_sameBooks (s : State) (g : GateId) (x : Decision) : SameBooks s (s.noteRefusal g x) := by
  unfold State.noteRefusal
  split <;> exact ⟨rfl, rfl⟩

theorem refuseWaiting_sameBooks (s : State) (d : DeckId) : SameBooks s (s.refuseWaiting d) := by
  have hone (s : State) (g : GateId) : SameBooks s (s.refuseOne g) := by
    unfold State.refuseOne
    split <;> exact ⟨rfl, rfl⟩
  rw [refuseWaiting_eq_refuseOne]
  exact (hone _ _).trans (hone _ _)

theorem deckFault_sameBooks (s : State) (d : DeckId) : SameBooks s (s.deckFault d) := by
  unfold State.deckFault
  exact (refuseWaiting_sameBooks _ d).after rfl rfl

theorem missCell_sameBooks (s : State) (d : DeckId) (i : Nat) : SameBooks s (s.missCell d i) := by
  unfold State.missCell
  dsimp only
  split
  · exact ⟨rfl, rfl⟩
  · split
    · exact (deckFault_sameBooks _ d).after rfl rfl
    · exact (deckFault_sameBooks _ d).after rfl rfl
    · exact ⟨rfl, rfl⟩

theorem wakeYard_sameBooks (s : State) (c : WakeCause) : SameBooks s (s.wakeYard c) := by
  rw [wakeYard_eq]
  exact ⟨rfl, rfl⟩

theorem wakeSource_sameBooks (s : State) (c : WakeCause) : SameBooks s (s.wakeSource c) := by
  unfold State.wakeSource
  split
  · exact wakeYard_sameBooks s c
  · exact .refl s

theorem calibrate_sameBooks (s : State) (d : DeckId) (r : CalRecord) : SameBooks s (s.calibrate d r) := by
  unfold State.calibrate
  dsimp only
  split <;> exact ⟨rfl, rfl⟩

theorem writeEvaluation_sameBooks (s : State) (d : DeckId) (r : CalRecord) (warming : Bool) (good : List Good) :
    SameBooks s (s.writeEvaluation d r warming good) := by
  rw [writeEvaluation_eq]
  split <;> exact ⟨rfl, rfl⟩

/-! ### The write of one slot -/

/-- A slot whose content carries the same account on site as before. -/
theorem AccountLaws.rewriteSlot {n : Nat} {v : Visit} {x : Option Visit} (hs : AccountLaws s) (hv : s.visit n = some v)
    (hx : openAccount x = openAccount (some v)) : AccountLaws (s.writeSlot n x) := by
  refine hs.transfer (lt_of_visit hv) (f := id) ?_ (fun a ha => hs.known (n := n) ?_) rfl (List.map_id _).symm
  · rw [hx, hv]
    exact Moves.refl _
  · rw [hv, ← hx, ha]

/-- A slot whose visit is no longer on site, with the count of the account that it carried there. -/
theorem AccountLaws.leaveSite {t : State} {n : Nat} {v : Visit} {x : Option Visit} {f : Account → Account}
    (hs : AccountLaws s) (hv : s.visit n = some v) (hx : openAccount x = none)
    (hf : Moves f (openAccount (some v)) none) (hslots : t.register.slots = (s.writeSlot n x).register.slots)
    (haccounts : t.accounts = s.accounts.map f) : AccountLaws t := by
  refine hs.transfer (lt_of_visit hv) (f := f) ?_ (fun a ha => ?_) hslots haccounts
  · rwa [hv, hx]
  · rw [hx] at ha
    cases ha

/-- A visit on site leaves the site, and its account's count falls by one (R75). -/
theorem AccountLaws.leaveSlot {n : Nat} {v : Visit} {x : Option Visit} (hs : AccountLaws s) (hv : s.visit n = some v)
    (ho : v.isOpen = true) (hx : openAccount x = none) : AccountLaws ((s.writeSlot n x).countDown v.account) := by
  have hmoves := countDown_moves v.account
  rw [countDown_eq]
  exact hs.leaveSite hv hx ((openAccount_of_open ho).symm ▸ hmoves) rfl rfl

/-! ### The work of the register (R46, R63, R66) -/

theorem openAccount_closed {v : Visit} {k : Ticket} (h : v.state = .closed k) : openAccount (some v) = none :=
  openAccount_of_not_open (by simp [Visit.isOpen, h])

theorem openAccount_afterTicket (v : Visit) (k : Ticket) : openAccount (v.afterTicket k) = none := by
  unfold Visit.afterTicket
  split
  · rfl
  · exact openAccount_closed rfl

/-- A CLOSED visit's ticket changes, or its slot is freed (R61). -/
theorem AccountLaws.writeTicket {n : Nat} {v : Visit} {k : Ticket} (hs : AccountLaws s) (hv : s.visit n = some v)
    (hk : v.state = .closed k) (k' : Ticket) : AccountLaws (s.writeSlot n (v.afterTicket k')) :=
  hs.rewriteSlot hv ((openAccount_afterTicket v k').trans (openAccount_closed hk).symm)

theorem AccountLaws.enterOnSite {n : Nat} {u v : Visit} (hs : AccountLaws s) (hu : s.visit n = some u)
    (hv : openAccount (some v) = openAccount (some u)) : AccountLaws (s.enterOnSite n v) := by
  unfold State.enterOnSite
  split
  · exact (hs.rewriteSlot hu (x := some { v with overStay := true }) hv).same ⟨rfl, rfl⟩
  · exact hs.rewriteSlot hu hv

theorem AccountLaws.checkStay (hs : AccountLaws s) (n : Nat) : AccountLaws (s.checkStay n) := by
  unfold State.checkStay
  split
  · next v hv =>
    split
    · exact (hs.rewriteSlot hv (x := some { v with overStay := true }) rfl).same ⟨rfl, rfl⟩
    · exact hs
  · exact hs

theorem AccountLaws.checkStays (hs : AccountLaws s) : AccountLaws s.checkStays :=
  List.foldlRecOn (motive := AccountLaws) _ _ hs fun _ h n _ => h.checkStay n

theorem AccountLaws.depart (hs : AccountLaws s) (n : Nat) (d : DeckId) : AccountLaws (s.depart n d) := by
  unfold State.depart
  split
  · next v hv =>
    split
    · next w hw => exact hs.rewriteSlot hv (by simp [openAccount, Visit.isOpen, hw])
    · exact hs
  · exact hs

theorem AccountLaws.undo (hs : AccountLaws s) (n : Nat) : AccountLaws (s.undo n) := by
  unfold State.undo
  split
  · next v hv =>
    split
    · next d hd => exact hs.leaveSlot hv (by simp [Visit.isOpen, hd]) rfl
    · next d w hw => exact hs.enterOnSite hv (by simp [openAccount, Visit.isOpen, hw])
    · exact hs
  · exact hs

/-- A reset takes the ARRIVING visits off the site, and leaves the others there (R66). -/
theorem openAccount_afterReset (sl : Slot) :
    openAccount sl.afterReset.visit = if sl.name = .arriving then none else openAccount sl.visit := by
  unfold Slot.afterReset Slot.name
  split
  · next hfree => simp [hfree]
  · next v hv =>
    simp only [hv]
    split
    · next d hd => simp [openAccount, VisitState.name, hd]
    · next d w hw => simp [openAccount, Visit.isOpen, VisitState.name, hw]
    · next k hk =>
      split
      · simp [openAccount, Visit.isOpen, VisitState.name, Visit.withTicket, hk]
      · simp [VisitState.name, hk, hv]
    · next harriving _ _ =>
      rw [if_neg, hv]
      cases hst : v.state <;> simp_all [VisitState.name]

/-- The number on site of an account is reduced by the ARRIVING visits that a reset frees (R66, R75). -/
theorem openOn_resetRegister (s : State) (n : AccountNo) :
    s.resetRegister.openOn n + s.arrivingOn n = s.openOn n := by
  have hslot (sl : Slot) : addsTo (openAccount sl.afterReset.visit) n +
      (if (sl.visit.any fun v => v.state.name == .arriving && v.account == some n) = true then 1 else 0) =
      addsTo (openAccount sl.visit) n := by
    rw [openAccount_afterReset]
    cases hv : sl.visit with
    | none => simp [Slot.name, hv, openAccount]
    | some v =>
      cases hst : v.state <;>
        simp [Slot.name, hv, openAccount, addsTo, Visit.isOpen, hst, VisitState.name]
  rw [openOn_eq_countP, openOn_eq_countP]
  unfold State.resetRegister State.arrivingOn
  dsimp only
  induction s.register.slots with
  | nil => rfl
  | cons sl slots ih =>
    have hcons := hslot sl
    simp only [List.map_cons, List.countP_cons, decide_eq_true_iff, addsTo] at ih hcons ⊢
    omega

theorem AccountLaws.resetRegister (hs : AccountLaws s) : AccountLaws s.resetRegister := by
  obtain ⟨⟨hcounts, hopen⟩, hcredit⟩ := hs
  refine ⟨⟨fun b hb => ?_, fun i v n hv ho hn => ?_⟩, fun b hb => ?_⟩
  · obtain ⟨a, ha, rfl⟩ := List.mem_map.1 hb
    have hcount := hcounts a ha
    have hreset := openOn_resetRegister s a.number
    dsimp only
    omega
  · obtain ⟨sl, hsl, hslv⟩ := visit_eq_some_iff.1 hv
    obtain ⟨old, hold, rfl⟩ := List.mem_map.1 (List.mem_of_getElem? hsl)
    have hafter : openAccount old.afterReset.visit = some n := openAccount_eq_some_iff.2 ⟨v, hslv, ho, hn⟩
    rw [openAccount_afterReset] at hafter
    split at hafter
    · cases hafter
    · obtain ⟨u, hu, huo, hun⟩ := openAccount_eq_some_iff.1 hafter
      obtain ⟨j, hj⟩ := List.getElem?_of_mem hold
      have hknown := hopen j u n (visit_eq_some_iff.2 ⟨old, hj, hu⟩) huo hun
      rwa [account_of_map (s := s) (f := fun a => { a with count := a.count - s.arrivingOn a.number }) rfl fun _ => rfl,
        Option.isSome_map]
  · obtain ⟨a, ha, rfl⟩ := List.mem_map.1 hb
    exact hcredit a ha

/-- With every slot FREE and no account the laws hold. -/
theorem accountLaws_of_empty (ha : s.accounts = []) (hv : ∀ n, s.visit n = none) : AccountLaws s := by
  refine ⟨⟨fun a h => ?_, fun i v n h => ?_⟩, fun a h => ?_⟩
  · rw [ha] at h
    cases h
  · rw [hv] at h
    cases h
  · rw [ha] at h
    cases h

/-! ### The Print Controller (R154 to R158) -/

theorem AccountLaws.writePrinting (hs : AccountLaws s) (n : Nat) (m : PrintMark) :
    AccountLaws (s.writePrinting n m) := by
  unfold State.writePrinting
  split
  · next v hv =>
    split
    · next k hk =>
      split
      · exact hs.writeTicket hv hk _
      · exact hs
    · exact hs
  · exact hs

theorem AccountLaws.startJob {n : Nat} {v : Visit} {k : Ticket} (hs : AccountLaws s) (hv : s.visit n = some v)
    (hk : v.state = .closed k) (p : PrinterId) : AccountLaws (s.startJob p n v k) :=
  (hs.rewriteSlot hv (x := some (v.withTicket k.started)) (openAccount_closed hk).symm).same ⟨rfl, rfl⟩

theorem AccountLaws.failJob (hs : AccountLaws s) (j : Job) (c : FaultCause) : AccountLaws (s.failJob j c) :=
  (hs.writePrinting j.slot .unprinted).same ⟨rfl, rfl⟩

theorem AccountLaws.endJob (hs : AccountLaws s) (j : Job) : AccountLaws (s.endJob j) :=
  (hs.writePrinting j.slot .printed).same ⟨rfl, rfl⟩

theorem AccountLaws.arbitrate (hs : AccountLaws s) (fuel : Nat) : AccountLaws (s.arbitrate fuel) := by
  induction fuel generalizing s with
  | zero => exact hs
  | succ fuel ih =>
    unfold State.arbitrate
    split
    · next p _ _ =>
      split
      · split
        · next v hv =>
          split
          · next k hk =>
            have hstart := hs.startJob hv hk p
            dsimp only
            split
            · split
              · exact ih (hstart.failJob _ _)
              · exact hstart
            · exact hstart
          · exact hs
        · exact hs
      · exact hs
    · exact hs

theorem AccountLaws.serveBus (hs : AccountLaws s) : AccountLaws s.serveBus := hs.arbitrate 3

theorem AccountLaws.faultJob (hs : AccountLaws s) (j : Job) (c : FaultCause) : AccountLaws (s.faultJob j c) :=
  (hs.failJob j c).serveBus

theorem AccountLaws.finishJob (hs : AccountLaws s) (j : Job) : AccountLaws (s.finishJob j) := (hs.endJob j).serveBus

theorem AccountLaws.byteEnd (hs : AccountLaws s) (j : Job) : AccountLaws (s.byteEnd j) := by
  have hjob (x : Option Job) : AccountLaws (s.setJob x) := hs.same ⟨rfl, rfl⟩
  unfold State.byteEnd
  dsimp only
  split
  · exact hjob _
  · split
    · exact (hjob _).faultJob _ _
    · exact hjob _

theorem AccountLaws.strobeEnd (hs : AccountLaws s) (j : Job) : AccountLaws (s.strobeEnd j) := by
  unfold State.strobeEnd
  split
  · exact hs.byteEnd j
  · exact hs.same ⟨rfl, rfl⟩

/-! ### The close and the capture (R47 to R51) -/

/-- A close of the visit of a slot, open exactly where the close says so (R50, R75). -/
theorem AccountLaws.closeRecord {n : Nat} {u v : Visit} {c : Closing} (hs : AccountLaws s) (hu : s.visit n = some u)
    (hopen : u.isOpen = c.fromOpen) (hv : v.account = u.account) : AccountLaws (s.closeRecord n v c) := by
  have hcarried : openAccount (some u) = if c.fromOpen = true then v.account else none := by rw [hv, ← hopen]; rfl
  rw [closeRecord_eq]
  exact hs.leaveSite hu (x := some (v.withTicket (s.ticketOf v c))) rfl (hcarried ▸ afterClose_moves v _ _) rfl rfl

theorem AccountLaws.closeAtCapture {n : Nat} {u v : Visit} (hs : AccountLaws s) (hu : s.visit n = some u)
    (hopen : u.isOpen = true) (hv : v.account = u.account) (d : DeckId) (a b : Weighing) :
    AccountLaws (s.closeAtCapture n v d a b).1 := by
  unfold State.closeAtCapture
  dsimp only
  split
  · next r _ =>
    have hheld := hs.leaveSlot hu hopen (x := some { v with state := .held a b (netOf v.direction a b) r }) rfl
    rw [← hv] at hheld
    exact hheld.same ⟨rfl, rfl⟩
  · exact (hs.closeRecord hu hopen hv).serveBus

theorem AccountLaws.capture (hs : AccountLaws s) (n : Nat) (d : DeckId) (w : Weighing) :
    AccountLaws (s.capture n d w).1 := by
  unfold State.capture
  split
  · next v hv =>
    split
    · next e he =>
      have hopen : v.isOpen = true := by simp [Visit.isOpen, he]
      split
      · exact hs.closeAtCapture (v := { v with onePass := true }) hv hopen rfl _ _ _
      · exact hs.enterOnSite hv (openAccount_of_open hopen).symm
    · next e first he => exact hs.closeAtCapture hv (by simp [Visit.isOpen, he]) rfl _ _ _
    · exact hs
  · exact hs

theorem AccountLaws.captureInto (hs : AccountLaws s) (d : DeckId) (v : Serving) (w : Weighing) :
    AccountLaws (s.captureInto d v w) :=
  (hs.capture v.slot d w).same ⟨rfl, rfl⟩

theorem AccountLaws.captureTest (hs : AccountLaws s) (d : DeckId) : AccountLaws (s.captureTest d) := by
  unfold State.captureTest
  split
  · split
    · exact hs.captureInto _ _ _
    · exact hs
  · exact hs

/-! ### Calls and offers (R85, R115 to R121) -/

/-- An account that passes its checks is there (R85). -/
theorem known_of_accountCheck {o : Option AccountNo} (h : s.accountCheck o = none) {a : AccountNo} (ha : o = some a) :
    (s.account a).isSome = true := by
  rw [Option.isSome_iff_ne_none]
  intro hnone
  have hfails := accountCheck_isSome_iff.2 ⟨a, ha, fun x hx => by rw [hnone] at hx; cases hx⟩
  rw [h] at hfails
  cases hfails

theorem accountCheck_of_entryCheck {barred : Bool} {k : Nat} {dir : Direction} {o : Option AccountNo}
    (h : s.entryCheck barred k dir o = none) : s.accountCheck o = none := by
  unfold State.entryCheck at h
  split at h
  · cases h
  · split at h
    · cases h
    · split at h
      · cases h
      · assumption

/-- The account of a visit that the entry checks let in passes its checks (R85, R119). -/
theorem accountCheck_of_inboundCheck {f : CallForm} {o : Opening} (h : s.inboundCheck f = .ok o) :
    s.accountCheck o.account = none := by
  unfold State.inboundCheck at h
  split at h
  · split at h
    · cases h
    · split at h
      · cases h
      · split at h
        · cases h
        · next hentry =>
          cases h
          exact accountCheck_of_entryCheck hentry
  · split at h
    · cases h
    · split at h
      · cases h
      · next hentry =>
        cases h
        exact accountCheck_of_entryCheck hentry
  · cases h

/-- An open counts the new visit on the account that the entry checks found (R45, R75). -/
theorem AccountLaws.openIn {n : Nat} {f : CallForm} {o : Opening} (hs : AccountLaws s) (ho : s.inboundCheck f = .ok o)
    (hn : s.lowestFree = some n) (d : DeckId) : AccountLaws (s.openIn n o d) := by
  have hfree := visit_lowestFree hn
  have hopened : openAccount (some (o.visit d s.service.clock)) = o.account := openAccount_of_open rfl
  have hlt : n < s.register.slots.length := (List.findIdx?_eq_some_iff_getElem.1 hn).1
  have hcounted : AccountLaws ((s.writeSlot n (some (o.visit d s.service.clock))).countUp o.account) := by
    rw [countUp_eq]
    refine hs.transfer hlt (x := some (o.visit d s.service.clock)) ?_ (fun a ha => ?_) rfl rfl
    · rw [hfree, hopened]
      exact countUp_moves o.account
    · exact known_of_accountCheck (accountCheck_of_inboundCheck ho) (hopened.symm.trans ha)
  unfold State.openIn
  dsimp only
  split
  · exact hcounted.same ⟨rfl, rfl⟩
  · exact hcounted

theorem AccountLaws.takeCall (hs : AccountLaws s) (g : GateId) (f : CallForm) : AccountLaws (s.takeCall g f).1 := by
  unfold State.takeCall
  split
  · split
    · exact hs
    · next o ho =>
      split
      · next n hn => exact (hs.openIn ho hn g.deck).same ⟨rfl, rfl⟩
      · exact hs
  · split
    · exact hs
    · next n _ => exact (hs.depart n g.deck).same ⟨rfl, rfl⟩

theorem AccountLaws.judgeCall (hs : AccountLaws s) (g : GateId) (f : CallForm) : AccountLaws (s.judgeCall g f).1 := by
  unfold State.judgeCall
  split
  · exact hs
  · split
    · exact hs
    · split
      · exact hs
      · exact hs.takeCall g f

theorem AccountLaws.arbitrateCall (hs : AccountLaws s) (g : GateId) (f : CallForm) :
    AccountLaws (s.arbitrateCall g f).1 := by
  unfold State.arbitrateCall
  dsimp only
  split
  · exact (hs.judgeCall g f).same ⟨rfl, rfl⟩
  · exact (hs.judgeCall g f).same (noteRefusal_sameBooks _ _ _)

theorem AccountLaws.offerOne (hs : AccountLaws s) (g : GateId) : AccountLaws (s.offerOne g) := by
  unfold State.offerOne
  split
  · exact hs
  · next c _ =>
    dsimp only
    split
    · exact hs
    · have hdropped : AccountLaws ((s.judgeCall g c.form).1.dropWaiting g) := (hs.judgeCall g c.form).same ⟨rfl, rfl⟩
      exact hdropped.same (noteRefusal_sameBooks _ _ _)

theorem AccountLaws.offer (hs : AccountLaws s) (d : DeckId) : AccountLaws (s.offer d) := by
  unfold State.offer
  split
  · dsimp only
    split
    · exact (hs.offerOne _).offerOne _
    · exact hs.offerOne _
  · exact hs

/-! ### The session (R122 to R131) -/

theorem AccountLaws.clearingTest (hs : AccountLaws s) (d : DeckId) (v : Serving) :
    AccountLaws (s.clearingTest d v) := by
  have hvacant : AccountLaws (s.vacate d) := hs.same ⟨rfl, rfl⟩
  unfold State.clearingTest
  dsimp only
  split
  · exact hvacant.offer d
  · split
    · exact hs.same ⟨rfl, rfl⟩
    · split
      · exact hvacant.offer d
      · exact hs

theorem AccountLaws.clearWaived (hs : AccountLaws s) (d : DeckId) (v : Serving) : AccountLaws (s.clearWaived d v) :=
  AccountLaws.clearingTest (s := s.enterClearing d { v with waiver := true }) (hs.same ⟨rfl, rfl⟩) d _

theorem AccountLaws.sessionBarrier (hs : AccountLaws s) (g : GateId) : AccountLaws (s.sessionBarrier g) := by
  unfold State.sessionBarrier
  split
  · split
    · exact hs.captureTest _
    · split
      · exact hs.clearingTest _ _
      · exact hs
    · exact hs
  · exact hs

theorem AccountLaws.sessionLoop (hs : AccountLaws s) (g : GateId) (occupied : Bool) :
    AccountLaws (s.sessionLoop g occupied) := by
  have hset (x : Option Serving) : AccountLaws (s.setSession g.deck x) := hs.same ⟨rfl, rfl⟩
  unfold State.sessionLoop
  dsimp only
  split
  · next v _ =>
    cases v.stage with
    | onDeck => exact hs.captureTest _
    | called | released => exact keeps_ite (hset _) hs
    | boarding => exact keeps_ite (hset _) hs
    | leaving => exact keeps_ite (keeps_ite (hs.clearWaived _ _) (hset _)) hs
    | clearing => exact keeps_ite (hset _) (hs.clearingTest _ _)
  · exact hs

theorem AccountLaws.sessionEvaluation (hs : AccountLaws s) (d : DeckId) : AccountLaws (s.sessionEvaluation d) := by
  unfold State.sessionEvaluation
  dsimp only
  split
  · next v _ =>
    have hclearing : AccountLaws (s.enterClearing d v) := hs.same ⟨rfl, rfl⟩
    have hreleased : AccountLaws (s.enterReleased d v) := hs.same ⟨rfl, rfl⟩
    have hboarded : AccountLaws (s.enterOnDeck d v) := hs.same ⟨rfl, rfl⟩
    cases v.stage with
    | boarding => exact keeps_ite (keeps_ite hboarded (hs.same ⟨rfl, rfl⟩)) hs
    | onDeck => exact hs.captureTest d
    | leaving => exact keeps_ite (keeps_ite hreleased hclearing) hs
    | clearing => exact hs.clearingTest d v
    | called | released => exact hs
  · exact hs

theorem AccountLaws.barrierMoved (hs : AccountLaws s) (g : GateId) (before : Barrier) :
    AccountLaws (s.barrierMoved g before) := by
  have hnoted (c : Prop) [Decidable c] : AccountLaws (if c then s.raise .barrierFault (.gate g) else s) :=
    keeps_ite (hs.same ⟨rfl, rfl⟩) hs
  exact keeps_ite (hnoted _) ((hnoted _).sessionBarrier g)

theorem AccountLaws.gateEvent (hs : AccountLaws s) (g : GateId) (f : Gate → Gate) : AccountLaws (s.gateEvent g f) :=
  AccountLaws.barrierMoved (s := s.setGate g (f (s.gate g))) (hs.same ⟨rfl, rfl⟩) g _

theorem AccountLaws.unlockGate (hs : AccountLaws s) (g : GateId) : AccountLaws (s.unlockGate g) :=
  keeps_ite (keeps_ite ((hs.gateEvent g _).offer _) (hs.gateEvent g _)) hs

theorem AccountLaws.cancel {t : State} {d : DeckId} {v : Serving} (hs : AccountLaws s) (h : s.cancel d v = some t) :
    AccountLaws t := by
  have hundone := hs.undo v.slot
  unfold State.cancel at h
  split at h
  · cases h
    exact hundone.same ⟨rfl, rfl⟩
  · cases h
    exact hundone.same ⟨rfl, rfl⟩
  · cases h
    exact hundone.same ⟨rfl, rfl⟩
  all_goals
    split at h
    · cases h
      exact hs.clearWaived d v
    · cases h

/-! ### The cycles of a deck (R1, R6) -/

theorem AccountLaws.evaluate (hs : AccountLaws s) (d : DeckId) (warming : Bool) (good : List Good) :
    AccountLaws (s.evaluate d warming good) := by
  cases hr : (s.deck d).cal.record with
  | none => rwa [evaluate_uncalibrated hr]
  | some r =>
    have hsession := (hs.same (writeEvaluation_sameBooks s d r warming good)).sessionEvaluation d
    rw [evaluate_eq hr]
    exact keeps_ite (hsession.offer d) hsession

theorem AccountLaws.pollNext (hs : AccountLaws s) (d : DeckId) (warming : Bool) (todo : List Nat) (good : List Good) :
    AccountLaws (s.pollNext d warming todo good) := by
  cases todo with
  | nil => exact AccountLaws.evaluate (s := s.setCells d _) (hs.same ⟨rfl, rfl⟩) d warming good
  | cons i rest => exact hs.same ⟨rfl, rfl⟩

theorem AccountLaws.takeSlot (hs : AccountLaws s) (d : DeckId) : AccountLaws (s.takeSlot d) :=
  keeps_ite (AccountLaws.pollNext (s := s.setCells d _) (hs.same ⟨rfl, rfl⟩) d _ _ _) (hs.same ⟨rfl, rfl⟩)

theorem AccountLaws.endExchange (hs : AccountLaws s) (d : DeckId) (c : Cycle) (g : Option Good) :
    AccountLaws (s.endExchange d c g) := by
  cases g with
  | none => exact (hs.same (missCell_sameBooks s d c.awaiting)).pollNext d _ _ _
  | some g => exact AccountLaws.pollNext (s := s.setCell d c.awaiting _) (hs.same ⟨rfl, rfl⟩) d _ _ _

/-! ### The emergency, the loops, the readers and the resets -/

theorem AccountLaws.abortSession (hs : AccountLaws s) (d : DeckId) : AccountLaws (s.abortSession d) := by
  unfold State.abortSession
  split
  · next v _ =>
    cases v.stage with
    | called | boarding | onDeck => exact (hs.undo v.slot).same ⟨rfl, rfl⟩
    | released | leaving | clearing => exact hs.same ⟨rfl, rfl⟩
  · exact hs.same ⟨rfl, rfl⟩

theorem AccountLaws.setLatch (hs : AccountLaws s) : AccountLaws s.setLatch := by
  have hset : AccountLaws { s with emergency := { s.emergency with latch := true } } := hs.same ⟨rfl, rfl⟩
  have hraised := eachGate_keeps (f := fun s' g => s'.gateEvent g fun x => x.forcedRaise s'.now)
    (fun _ g h => h.gateEvent g _) hset
  have hended := eachDeck_keeps (P := AccountLaws) (f := fun s d => (s.abortSession d).dropCalls d)
    (fun _ d h => (h.abortSession d).same ⟨rfl, rfl⟩) hraised
  exact (hended.same (wakeSource_sameBooks _ .emergency)).same ⟨rfl, rfl⟩

theorem AccountLaws.releaseLatch (hs : AccountLaws s) : AccountLaws s.releaseLatch := by
  have hreleased : AccountLaws { s with emergency := { s.emergency with latch := false } } := hs.same ⟨rfl, rfl⟩
  exact eachDeck_keeps (fun _ d h => h.offer d) (eachGate_keeps (fun _ g h => h.gateEvent g _) hreleased)

theorem AccountLaws.loopEvent (hs : AccountLaws s) (g : GateId) (occupied : Bool) :
    AccountLaws (s.loopEvent g occupied) := by
  have hsession := (hs.gateEvent g fun x => x.loopChange s.now occupied).sessionLoop g occupied
  exact keeps_ite (hsession.same (wakeSource_sameBooks _ _)) hsession

theorem AccountLaws.acceptedRead (hs : AccountLaws s) (g : GateId) (t : Tag) : AccountLaws (s.acceptedRead g t) :=
  keeps_ite (keeps_ite ((hs.same (wakeYard_sameBooks s (.tag g))).arbitrateCall g _) hs) (hs.arbitrateCall g _)

theorem AccountLaws.performReset (hs : AccountLaws s) (cause : ResetCause) (lost : Bool) (pins : Pins) :
    AccountLaws (s.performReset cause lost pins) := by
  have hblocks : AccountLaws (s.resetBlocks cause lost pins) := hs.resetRegister.same ⟨rfl, rfl⟩
  exact keeps_ite hblocks.serveBus.setLatch hblocks.serveBus

theorem accountLaws_loseRetained (s : State) : AccountLaws s.loseRetained :=
  accountLaws_of_empty rfl fun n => by
    rw [Option.eq_none_iff_forall_ne_some]
    intro v hv
    obtain ⟨sl, hsl, hslv⟩ := visit_eq_some_iff.1 hv
    obtain rfl := List.eq_of_mem_replicate (List.mem_of_getElem? hsl)
    cases hslv

theorem accountLaws_clearTables (s : State) : AccountLaws s.clearTables := by
  unfold State.clearTables
  refine eachDeck_keeps (P := AccountLaws) (fun s d h => h.same (refuseWaiting_sameBooks s d))
    (accountLaws_of_empty rfl fun n => ?_)
  rw [Option.eq_none_iff_forall_ne_some]
  intro v hv
  obtain ⟨sl, hsl, hslv⟩ := visit_eq_some_iff.1 hv
  obtain ⟨old, -, rfl⟩ := List.mem_map.1 (List.mem_of_getElem? hsl)
  rw [write_visit] at hslv
  cases hslv

/-! ### AMEND and RESOLVE CLOSE (R56, R58) -/

/-- A visit's account changed: the counts move from the one to the other (R56, R75). -/
theorem moveAccount_moves (s : State) (before after : Option AccountNo) :
    ∃ f, Moves f before after ∧ s.moveAccount before after = { s with accounts := s.accounts.map f } := by
  unfold State.moveAccount
  by_cases h : before = after
  · refine ⟨id, h ▸ Moves.refl before, ?_⟩
    rw [if_pos h, List.map_id]
  · refine ⟨_, (countUp_moves after).comp (countDown_moves before), ?_⟩
    rw [if_neg h, countDown_eq, countUp_eq, List.map_map]

theorem AccountLaws.amend {n : Nat} {v : Visit} {w : Weighing} (hs : AccountLaws s) (hv : s.visit n = some v)
    (hw : v.state = .onSite w) (kind : Option Byte) (plate : Option (List Byte)) (account : Option AccountNo) :
    AccountLaws (s.amend n v kind plate account).1 := by
  have hopen : v.isOpen = true := by simp [Visit.isOpen, hw]
  unfold State.amend
  split
  · next k p _ _ =>
    split
    · exact hs
    · split
      · exact hs
      · split
        · exact hs
        · next hpasses =>
          have hamended : openAccount (some (v.amended k p account)) = amendedAccount v account :=
            openAccount_of_open hopen
          obtain ⟨f, hf, hmove⟩ := moveAccount_moves (s.writeSlot n (some (v.amended k p account))) v.account
            (amendedAccount v account)
          change AccountLaws ((s.writeSlot n (some (v.amended k p account))).moveAccount v.account
            (amendedAccount v account))
          rw [hmove]
          refine hs.transfer (lt_of_visit hv) (x := some (v.amended k p account)) ?_ (fun a ha => ?_) rfl rfl
          · rwa [hv, hamended, openAccount_of_open hopen]
          · rw [hamended] at ha
            by_cases hsame : amendedAccount v account = v.account
            · exact hs.1.2 n v a hv hopen (hsame.symm.trans ha)
            · rw [amendAccountFails_iff] at hpasses
              rw [Option.isSome_iff_ne_none]
              exact fun hnone => hpasses ⟨a, ha, hsame, fun x hx => by rw [hnone] at hx; cases hx⟩
  · exact hs

theorem AccountLaws.resolveClose {n : Nat} {v : Visit} (hs : AccountLaws s) (hv : s.visit n = some v)
    (ho : v.isOpen = false) (a b : Weighing) (target : Byte) (net : Option (BitVec 32)) :
    AccountLaws (s.resolveClose n v a b target net).1 := by
  have hclose (c : Closing) (hc : c.fromOpen = false) : AccountLaws ((s.closeRecord n v c).doneAndServe n).1 :=
    (hs.closeRecord hv (ho.trans hc.symm) rfl).serveBus
  unfold State.resolveClose
  split
  · exact hs
  · split
    · split
      · exact hclose _ rfl
      · exact hs
    · dsimp only
      split
      · exact hs
      · exact hclose _ rfl

end Sys2Proof.Machine
end

section
/-! PROOFS. The laws of the accounts through every command and every step (R74, R75), and the account requests' own work
on them (R76 to R81). -/

namespace Sys2Proof.Machine

variable {s t : State}

/-! ### Commands that leave the slots and the accounts -/

/-- The commands that may change a slot or an account: the requests on visits and accounts, and whatever can move a
session, start or end a print job, check the stays, or reset. -/
def movesBooks : Instr → Bool
  | .amend _ _ _ _ _ | .cancelVisit _ _ | .resolveClose _ _ _ _ _ | .resolveDiscard _ _ | .collect _ _
  | .redirect _ _ _ | .reprint _ _ | .putAccount _ _ _ _ | .credit _ _ | .stop _ | .release _ | .dropAccount _
  | .raise _ | .lower _ | .resetGate _ | .unlock _ | .call _ _ _ _ _ _ | .manualCapture _ _ | .cancelSession _
  | .emergencyRelease | .releasePrinter _ | .resumePrinter _ | .setClock _ | .setSite _ _ _ | .restart _
  | .clearTables _ | .powerOn _ | .pinReset _ | .cycleSlot _ | .cellAnswer _ _ | .answerWindowLapse _
  | .loopStateChange _ _ | .limitSwitchChange _ _ _ | .warnTimeLapse _ | .driveLimitLapse _ | .settleTimeLapse _
  | .tagFrame _ _ | .boardTimerLapse _ | .yardClockAdvance | .emergencyInputChange _ | .strobeTimeLapse
  | .holdTimeLapse | .busyWaitLapse | .completionLimitLapse | .pfltChange _ _ | .pdoneChange _ _ => true
  | _ => false

theorem sameBooks_linkFree (s : State) : LinkFree (SameBooks s) where
  link _ _ h := ⟨h.slots, h.accounts⟩
  port _ _ h := ⟨h.slots, h.accounts⟩

theorem request_sameBooks {kind : Byte} {f : State → State × Reply} (hf : ∀ s, SameBooks s (f s).1)
    (h : request kind f s = .next t) : SameBooks s t :=
  request_keeps (sameBooks_linkFree s) (fun _ _ hs => hs.trans (hf _)) (.refl s) h

theorem event_sameBooks {f : State → State} (hf : ∀ s, SameBooks s (f s)) (h : event f s = .next t) : SameBooks s t :=
  event_keeps (P := SameBooks s) (fun _ _ hs => hs.trans (hf _)) (.refl s) h

theorem execWarmUpLapse_sameBooks {d : DeckId} (h : execWarmUpLapse d s = .next t) : SameBooks s t := by
  refine event_sameBooks (fun s => ?_) h
  split
  · exact .refl s
  · dsimp only
    split
    · split
      · exact (deckFault_sameBooks _ d).after rfl rfl
      · exact ⟨rfl, rfl⟩
    · exact ⟨rfl, rfl⟩

theorem execCallWaitLapse_sameBooks {g : GateId} (h : execCallWaitLapse g s = .next t) : SameBooks s t := by
  refine event_sameBooks (fun s => ?_) h
  split <;> exact ⟨rfl, rfl⟩

theorem execCaptureTimerLapse_sameBooks {d : DeckId} (h : execCaptureTimerLapse d s = .next t) : SameBooks s t := by
  refine event_sameBooks (fun s => ?_) h
  split
  · split <;> exact ⟨rfl, rfl⟩
  · exact .refl s

theorem execSetupTimeLapse_sameBooks (h : execSetupTimeLapse s = .next t) : SameBooks s t := by
  refine event_keeps (P := SameBooks s) (fun _ _ hs => ?_) (.refl s) h
  exact jobLapse_keeps (fun _ _ h => ⟨h.slots, h.accounts⟩) (fun _ _ h => ⟨h.slots, h.accounts⟩) hs

theorem execPbusyChange_sameBooks {p : PrinterId} {active : Bool} (h : execPbusyChange p active s = .next t) :
    SameBooks s t := by
  refine event_sameBooks (fun s => ?_) h
  dsimp only
  split
  · exact .refl s
  · split
    · split
      · split <;> exact ⟨rfl, rfl⟩
      · exact ⟨rfl, rfl⟩
    · exact ⟨rfl, rfl⟩

theorem execCalPut_sameBooks {closed : Bool} {body : CalBody} (h : execCalPut closed body s = .next t) :
    SameBooks s t := by
  refine request_sameBooks (fun s => ?_) h
  dsimp only
  iterate 4
    split
    · exact .refl s
  exact calibrate_sameBooks _ _ _

theorem execQuiet_sameBooks (h : execQuiet s = .next t) : SameBooks s t := by
  have hsleep (s : State) : SameBooks s (s.eachDeck State.enterAsleep) :=
    eachDeck_keeps (fun u d hu => hu.trans (enterAsleep_eq u d ▸ ⟨rfl, rfl⟩)) (.refl s)
  refine request_sameBooks (fun s => ?_) h
  split
  · exact .refl s
  · split
    · exact .refl s
    · exact (hsleep _).after rfl rfl

theorem execWake_sameBooks (h : execWake s = .next t) : SameBooks s t := by
  refine request_sameBooks (fun s => ?_) h
  split
  · exact wakeYard_sameBooks _ _
  · exact .refl s

/-- Every command but those of `movesBooks` leaves the slots and the accounts. -/
theorem exec_sameBooks {c : Instr} (hc : movesBooks c = false) (h : exec c s = .next t) : SameBooks s t := by
  cases c with
  | readDeck | calGet | find | getVehicle | getAccount | getKind | readSession | readPrinters | readNotices | status
  | malformedFrame | cutShortFrame => exact query_keeps (sameBooks_linkFree s) (.refl s) h
  -- Every outcome of these leaves both fields as they stand: the split names the outcomes, and each is a frame.
  | retryCell | seek | setTicketNext | putVehicle | dropVehicle | putKind | setGate | lock | readGate | setDeckTimers
  | setPrint | holdPrinter | takeNotice | dropNotices | setNotice =>
    refine request_sameBooks (fun s => ?_) h
    repeat' split
    all_goals exact ⟨rfl, rfl⟩
  | zero | walk | setTareFromDeck =>
    refine request_sameBooks (fun s => ?_) h
    dsimp only
    repeat' split
    all_goals exact ⟨rfl, rfl⟩
  | calPut => exact execCalPut_sameBooks h
  | quiet => exact execQuiet_sameBooks h
  | wake => exact execWake_sameBooks h
  | overrun | answerRead =>
    exact selection_keeps (sameBooks_linkFree s) (fun s _ hs => (sameBooks_linkFree _).link s _ hs) (.refl s) h
  | warmUpLapse => exact execWarmUpLapse_sameBooks h
  | callWaitLapse => exact execCallWaitLapse_sameBooks h
  | captureTimerLapse => exact execCaptureTimerLapse_sameBooks h
  | setupTimeLapse => exact execSetupTimeLapse_sameBooks h
  | pbusyChange => exact execPbusyChange_sameBooks h
  | mainSupplyLoss =>
    cases h
    exact ⟨rfl, rfl⟩
  | _ => cases hc

/-! ### Writes of an account (R76 to R81) -/

/-- The state that an account takes when its balance or its floor has changed, in one equation (R74, R77, R78). -/
theorem settle_eq (a : Account) : a.settle =
    { a with
      state := if a.state = .stoppedHold then .stoppedHold
        else if a.floor < a.balance then .active else .stoppedAuto } := by
  obtain ⟨number, state, balance, floor, limit, count⟩ := a
  cases state with
  | active =>
    by_cases h : balance ≤ floor
    · simp [Account.settle, h, not_lt.2 h]
    · simp [Account.settle, h, not_le.1 h]
  | stoppedAuto => by_cases h : floor < balance <;> simp [Account.settle, h]
  | stoppedHold => rfl

/-- An ACTIVE account that has taken its state has its balance above its floor (R74). -/
theorem settle_credit (a : Account) (h : a.settle.state = .active) : a.settle.floor < a.settle.balance := by
  rw [settle_eq] at h ⊢
  dsimp only at h ⊢
  split at h
  · cases h
  · split at h
    · assumption
    · cases h

theorem account_putAccount (s : State) (a : Account) (n : AccountNo) :
    (s.putAccount a).account n = if n = a.number then some a else s.account n := by
  have hnumber (m : AccountNo) : (m == n) = (m.toNat == n.toNat) := by
    rw [Bool.eq_iff_iff, beq_iff_eq, beq_iff_eq, BitVec.toNat_inj]
  simp only [State.account, State.putAccount, hnumber, find?_insertBy, ← BitVec.toNat_inj]

theorem openOn_pos_iff {s : State} {n : AccountNo} : 0 < s.openOn n ↔ ∃ i, openAccount (s.visit i) = some n := by
  rw [openOn_eq_countP, List.countP_pos_iff]
  simp only [decide_eq_true_iff]
  constructor
  · rintro ⟨sl, hsl, ha⟩
    obtain ⟨i, hi⟩ := List.getElem?_of_mem hsl
    refine ⟨i, ?_⟩
    rwa [State.visit, State.slot, List.getD_eq_getElem?_getD, hi]
  · rintro ⟨i, ha⟩
    obtain ⟨v, hv, hopen, hn⟩ := openAccount_eq_some_iff.1 ha
    obtain ⟨sl, hsl, hslv⟩ := visit_eq_some_iff.1 hv
    exact ⟨sl, List.mem_of_getElem? hsl, openAccount_eq_some_iff.2 ⟨v, hslv, hopen, hn⟩⟩

/-- No visit on site carries an account that is missing (R75). -/
theorem AccountLaws.openOn_missing (hs : AccountLaws s) {n : AccountNo} (h : s.account n = none) : s.openOn n = 0 := by
  refine Nat.eq_zero_of_not_pos fun hpos => ?_
  obtain ⟨i, hi⟩ := openOn_pos_iff.1 hpos
  have hknown := hs.known hi
  rw [h] at hknown
  cases hknown

theorem AccountLaws.putAccount {a : Account} (hs : AccountLaws s) (hcount : a.count = s.openOn a.number)
    (hcredit : a.state = .active → a.floor < a.balance) : AccountLaws (s.putAccount a) := by
  refine ⟨⟨fun b hb => ?_, fun i v n hv ho hn => ?_⟩, fun b hb => ?_⟩
  · rcases mem_insertBy _ _ _ _ hb with rfl | hb
    · exact hcount
    · exact hs.1.1 b hb
  · rw [account_putAccount]
    split
    · rfl
    · exact hs.1.2 i v n hv ho hn
  · rcases mem_insertBy _ _ _ _ hb with rfl | hb
    · exact hcredit
    · exact hs.2 b hb

/-- An account written in place of itself, its number and its count kept. -/
theorem AccountLaws.replace {n : AccountNo} {a b : Account} (hs : AccountLaws s) (ha : s.account n = some a)
    (hnumber : b.number = a.number) (hcount : b.count = a.count) (hcredit : b.state = .active → b.floor < b.balance) :
    AccountLaws (s.putAccount b) :=
  hs.putAccount (by rw [hcount, hnumber, hs.1.1 a (List.mem_of_find?_eq_some ha)]) hcredit

/-- An account that no visit on site carries is dropped (R81). -/
theorem AccountLaws.dropAccount {n : AccountNo} (hs : AccountLaws s) (hn : s.openOn n = 0) :
    AccountLaws { s with accounts := s.accounts.filter fun x => x.number != n } := by
  refine ⟨⟨fun b hb => hs.1.1 b (List.mem_of_mem_filter hb), fun i v m hv ho hm => ?_⟩,
    fun b hb => hs.2 b (List.mem_of_mem_filter hb)⟩
  obtain ⟨b, hb, hbm⟩ := account_isSome_iff.1 (hs.1.2 i v m hv ho hm)
  refine account_isSome_iff.2 ⟨b, List.mem_filter.2 ⟨hb, ?_⟩, hbm⟩
  rw [bne_iff_ne, hbm]
  rintro rfl
  have hpos : 0 < s.openOn m := openOn_pos_iff.2 ⟨i, openAccount_eq_some_iff.2 ⟨v, hv, ho, hm⟩⟩
  omega

/-! ### The requests on accounts (R76 to R81) -/

theorem AccountLaws.request {kind : Byte} {f : State → State × Reply} (hf : ∀ s, AccountLaws s → AccountLaws (f s).1)
    (hs : AccountLaws s) (h : request kind f s = .next t) : AccountLaws t :=
  request_keeps accountLaws_linkFree (fun s _ => hf s) hs h

theorem AccountLaws.execPutAccount {number : AccountNo} {opening floor : BitVec 32} {limit : Byte} (hs : AccountLaws s)
    (h : execPutAccount number opening floor limit s = .next t) : AccountLaws t := by
  refine AccountLaws.request (fun s hs => ?_) hs h
  dsimp only
  split
  · exact hs
  · next n _ =>
    split
    · next a ha =>
      refine hs.replace ha (settle_number _) ?_ (settle_credit _)
      rw [settle_eq]
    · next hn =>
      split
      · exact hs
      · exact hs.putAccount (hs.openOn_missing hn).symm fun hactive => by simpa [newAccount] using hactive

/-- An account request on an account that is there. -/
theorem AccountLaws.accountRequest {kind : Byte} {number : AccountNo} {own : State → Account → State × Reply}
    (hf : ∀ s n a, AccountLaws s → s.account n = some a → AccountLaws (own s a).1) (hs : AccountLaws s)
    (h : Machine.request kind (fun s => s.withAccount number (own s)) s = .next t) : AccountLaws t := by
  refine AccountLaws.request (fun s hs => ?_) hs h
  unfold State.withAccount
  split
  · exact hs
  · split
    · exact hs
    · next a ha => exact hf s _ a hs ha

theorem AccountLaws.execCredit {number : AccountNo} {amount : BitVec 32} (hs : AccountLaws s)
    (h : execCredit number amount s = .next t) : AccountLaws t := by
  refine AccountLaws.accountRequest (fun s n a hs ha => ?_) hs h
  have hput : AccountLaws (s.putAccount (a.credit amount.toInt)) := by
    unfold Account.credit
    split
    · exact hs.replace ha rfl rfl (hs.2 a (List.mem_of_find?_eq_some ha))
    · refine hs.replace ha (settle_number _) ?_ (settle_credit _)
      rw [settle_eq]
  exact keeps_ite (hput.same ⟨rfl, rfl⟩) hput

theorem AccountLaws.execStop {number : AccountNo} (hs : AccountLaws s) (h : execStop number s = .next t) :
    AccountLaws t := by
  refine AccountLaws.accountRequest (fun s n a hs ha => ?_) hs h
  exact hs.replace (b := { a with state := .stoppedHold }) ha rfl rfl nofun

theorem AccountLaws.execRelease {number : AccountNo} (hs : AccountLaws s) (h : execRelease number s = .next t) :
    AccountLaws t := by
  refine AccountLaws.accountRequest (fun s n a hs ha => ?_) hs h
  split
  · exact hs.replace ha rfl rfl fun hactive => by simpa [Account.released] using hactive
  · exact hs

theorem AccountLaws.execDropAccount {number : AccountNo} (hs : AccountLaws s)
    (h : execDropAccount number s = .next t) : AccountLaws t := by
  refine AccountLaws.accountRequest (fun s n a hs ha => ?_) hs h
  have hcount := hs.1.1 a (List.mem_of_find?_eq_some ha)
  split
  · exact hs
  · split
    · exact hs
    · exact hs.dropAccount (by omega)

/-! ### The requests on visits (R55 to R62, R161, R162) -/

theorem AccountLaws.visitRequest {kind slot : Byte} {expected : Option Revision} {own : State → Nat → State × Reply}
    (hf : ∀ s n, AccountLaws s → AccountLaws (own s n).1) (hs : AccountLaws s)
    (h : Machine.request kind (fun s => s.visitRequest slot expected (own s)) s = .next t) : AccountLaws t :=
  AccountLaws.request (fun s hs => visitRequest_keeps (fun n => hf s n hs) hs) hs h

theorem AccountLaws.execAmend {slot : Byte} {e : Option Revision} {k : Option Byte} {p : Option (List Byte)}
    {a : Option AccountNo} (hs : AccountLaws s) (h : execAmend slot e k p a s = .next t) : AccountLaws t := by
  refine AccountLaws.visitRequest (fun s n hs => ?_) hs h
  split
  · next v hv =>
    split
    · next w hw => exact hs.amend hv hw k p a
    · exact hs
  · exact hs

theorem AccountLaws.execCancelVisit {slot : Byte} {e : Option Revision} (hs : AccountLaws s)
    (h : execCancelVisit slot e s = .next t) : AccountLaws t := by
  refine AccountLaws.visitRequest (fun s n hs => ?_) hs h
  split
  · next v hv =>
    split
    · next w hw => exact hs.leaveSlot hv (by simp [Visit.isOpen, hw]) rfl
    · exact hs
  · exact hs

/-- A HELD visit leaves its slot (R59). -/
theorem AccountLaws.discard {n : Nat} {v : Visit} (hs : AccountLaws s) (hv : s.visit n = some v)
    (ho : v.isOpen = false) : AccountLaws (s.resolveDiscard n).1 :=
  hs.rewriteSlot hv (x := none) (openAccount_of_not_open ho).symm

theorem AccountLaws.execResolveClose {slot action target : Byte} {e : Option Revision} {net : Option (BitVec 32)}
    (hs : AccountLaws s) (h : execResolveClose slot e action target net s = .next t) : AccountLaws t := by
  refine AccountLaws.visitRequest (fun s n hs => ?_) hs h
  split
  · next v hv =>
    split
    · next a b k r hst =>
      have hheld : v.isOpen = false := by simp [Visit.isOpen, hst]
      split
      · exact hs.resolveClose hv hheld a b target net
      · split
        · exact hs.discard hv hheld
        · exact hs
    · exact hs
  · exact hs

theorem AccountLaws.execResolveDiscard {slot : Byte} {e : Option Revision} (hs : AccountLaws s)
    (h : execResolveDiscard slot e s = .next t) : AccountLaws t := by
  refine AccountLaws.visitRequest (fun s n hs => ?_) hs h
  split
  · next v hv =>
    split
    · next hst => exact hs.discard hv (by simp [Visit.isOpen, hst])
    · exact hs
  · exact hs

theorem AccountLaws.execCollect {slot : Byte} {e : Option Revision} (hs : AccountLaws s)
    (h : execCollect slot e s = .next t) : AccountLaws t := by
  refine AccountLaws.visitRequest (fun s n hs => ?_) hs h
  split
  · next v hv =>
    split
    · next k hk => exact hs.writeTicket hv hk { k with collected := true }
    · exact hs
  · exact hs

theorem AccountLaws.execRedirect {slot target : Byte} {e : Option Revision} (hs : AccountLaws s)
    (h : execRedirect slot e target s = .next t) : AccountLaws t := by
  refine AccountLaws.visitRequest (fun s n hs => ?_) hs h
  split
  · next v hv =>
    split
    · next k hk =>
      split
      · exact hs
      · next x _ =>
        split
        · exact hs
        · exact (hs.writeTicket hv hk (k.redirected x)).serveBus
    · exact hs
  · exact hs

theorem AccountLaws.execReprint {slot : Byte} {e : Option Revision} (hs : AccountLaws s)
    (h : execReprint slot e s = .next t) : AccountLaws t := by
  refine AccountLaws.visitRequest (fun s n hs => ?_) hs h
  split
  · next v hv =>
    split
    · next k hk =>
      split
      · exact hs
      · split
        · exact hs
        · split
          · exact (hs.rewriteSlot hv (x := some (v.withTicket { k with mark := .unprinted }))
              (openAccount_closed hk).symm).serveBus
          · exact hs
    · exact hs
  · exact hs

/-! ### The other requests -/

theorem AccountLaws.hostMove (hs : AccountLaws s) (gate : Byte) (f : Gate → Gate) :
    AccountLaws (s.hostMove gate f).1 := by
  unfold State.hostMove
  split
  · exact hs
  · split
    · exact hs
    · exact hs.gateEvent _ f

theorem AccountLaws.execResetGate {gate : Byte} (hs : AccountLaws s) (h : execResetGate gate s = .next t) :
    AccountLaws t := by
  refine AccountLaws.request (fun s hs => ?_) hs h
  split
  · exact hs
  · split
    · exact hs
    · split
      · exact hs
      · exact hs.gateEvent _ fun x => x.restore s.now s.emergency.latch

theorem AccountLaws.execUnlock {gate : Byte} (hs : AccountLaws s) (h : execUnlock gate s = .next t) :
    AccountLaws t := by
  refine AccountLaws.request (fun s hs => ?_) hs h
  split
  · exact hs
  · exact hs.unlockGate _

theorem AccountLaws.execCall {gate form : Byte} {key : List Byte} {account : AccountNo} {kind direction : Byte}
    (hs : AccountLaws s) (h : execCall gate form key account kind direction s = .next t) : AccountLaws t := by
  refine AccountLaws.request (fun s hs => ?_) hs h
  split
  · exact hs
  · split
    · exact hs
    · split
      · exact hs
      · exact hs.arbitrateCall _ _

theorem AccountLaws.execManualCapture {deck : Byte} {weight : BitVec 32} (hs : AccountLaws s)
    (h : execManualCapture deck weight s = .next t) : AccountLaws t := by
  refine AccountLaws.request (fun s hs => ?_) hs h
  split
  · exact hs
  · split
    · exact hs
    · split
      · exact hs
      · split
        · exact hs
        · exact hs.captureInto _ _ _

theorem AccountLaws.execCancelSession {deck : Byte} (hs : AccountLaws s) (h : execCancelSession deck s = .next t) :
    AccountLaws t := by
  refine AccountLaws.request (fun s hs => ?_) hs h
  split
  · exact hs
  · split
    · exact hs
    · split
      · next hcancel => exact hs.cancel hcancel
      · exact hs

theorem AccountLaws.execEmergencyRelease (hs : AccountLaws s) (h : execEmergencyRelease s = .next t) :
    AccountLaws t := by
  refine AccountLaws.request (fun s hs => ?_) hs h
  split
  · exact hs
  · split
    · exact hs
    · exact hs.releaseLatch

theorem AccountLaws.returnPrinter (hs : AccountLaws s) (p : PrinterId) : AccountLaws (s.returnPrinter p).1 :=
  AccountLaws.serveBus (s := s.setPrinterState p .inService) (hs.same ⟨rfl, rfl⟩)

theorem AccountLaws.execReleasePrinter {printer : Byte} (hs : AccountLaws s)
    (h : execReleasePrinter printer s = .next t) : AccountLaws t := by
  refine AccountLaws.request (fun s hs => ?_) hs h
  split
  · exact hs
  · split
    · split
      · exact hs.same ⟨rfl, rfl⟩
      · exact hs
    · exact hs.returnPrinter _
    · exact hs

theorem AccountLaws.execResumePrinter {printer : Byte} (hs : AccountLaws s)
    (h : execResumePrinter printer s = .next t) : AccountLaws t := by
  refine AccountLaws.request (fun s hs => ?_) hs h
  split
  · exact hs
  · split
    · exact hs.returnPrinter _
    · exact hs

theorem AccountLaws.execSetClock {seconds : Seconds} (hs : AccountLaws s) (h : execSetClock seconds s = .next t) :
    AccountLaws t := by
  refine AccountLaws.request (fun s hs => ?_) hs h
  have hset (v : Service) : AccountLaws (s.setService v) := hs.same ⟨rfl, rfl⟩
  dsimp only
  exact (hset _).checkStays

theorem AccountLaws.execSetSite {maxStay tagWake loopWake : Byte} (hs : AccountLaws s)
    (h : execSetSite maxStay tagWake loopWake s = .next t) : AccountLaws t := by
  refine AccountLaws.request (fun s hs => ?_) hs h
  have hset (v : Service) : AccountLaws (s.setService v) := hs.same ⟨rfl, rfl⟩
  dsimp only
  split
  · dsimp only
    exact (hset _).checkStays
  · exact hs

theorem AccountLaws.execClearTables {closed : Bool} (hs : AccountLaws s) (h : execClearTables closed s = .next t) :
    AccountLaws t := by
  refine AccountLaws.request (fun s hs => ?_) hs h
  split
  · exact hs
  · split
    · exact hs
    · exact accountLaws_clearTables s

theorem AccountLaws.execRestart {pins : Pins} (hs : AccountLaws s) (h : execRestart pins s = .next t) :
    AccountLaws t := by
  refine selection_keeps accountLaws_linkFree (fun s _ hs => ?_) hs h
  split
  · exact hs.same ⟨rfl, rfl⟩
  · exact hs.performReset _ _ _

theorem AccountLaws.execPowerOn {pins : Pins} (hs : AccountLaws s) (h : execPowerOn pins s = .next t) :
    AccountLaws t := by
  obtain rfl := Host.Outcome.next.inj h
  exact keeps_ite (hs.performReset _ _ _) ((accountLaws_loseRetained s).performReset _ _ _)

/-! ### The events -/

theorem AccountLaws.event {f : State → State} (hf : ∀ s, AccountLaws s → AccountLaws (f s)) (hs : AccountLaws s)
    (h : event f s = .next t) : AccountLaws t :=
  event_keeps (fun s _ => hf s) hs h

theorem AccountLaws.execYardClockAdvance (hs : AccountLaws s) (h : execYardClockAdvance s = .next t) :
    AccountLaws t := by
  have hticked : AccountLaws s.tickClock := hs.same ⟨rfl, rfl⟩
  obtain rfl := Host.Outcome.next.inj h
  exact keeps_ite hticked.checkStays (keeps_ite hticked hs)

theorem AccountLaws.execCycleSlot {d : DeckId} (hs : AccountLaws s) (h : execCycleSlot d s = .next t) :
    AccountLaws t := by
  refine AccountLaws.event (fun s hs => ?_) hs h
  have hpassed : AccountLaws (s.slotPassed d) := hs.same ⟨rfl, rfl⟩
  exact keeps_ite (hpassed.takeSlot d) hpassed

theorem AccountLaws.execCellAnswer {d : DeckId} {f : List Byte} (hs : AccountLaws s)
    (h : execCellAnswer d f s = .next t) : AccountLaws t := by
  refine AccountLaws.event (fun s hs => ?_) hs h
  split
  · exact hs.endExchange _ _ _
  · exact hs

theorem AccountLaws.execAnswerWindowLapse {d : DeckId} (hs : AccountLaws s)
    (h : execAnswerWindowLapse d s = .next t) : AccountLaws t := by
  refine AccountLaws.event (fun s hs => ?_) hs h
  split
  · exact AccountLaws.endExchange (s := s.reach _) (hs.same ⟨rfl, rfl⟩) d _ _
  · exact hs

theorem AccountLaws.execLoopStateChange {g : GateId} {occupied : Bool} (hs : AccountLaws s)
    (h : execLoopStateChange g occupied s = .next t) : AccountLaws t :=
  AccountLaws.event (fun _ hs => keeps_ite hs (hs.loopEvent g occupied)) hs h

theorem AccountLaws.execLimitSwitchChange {g : GateId} {w : LimitSwitch} {active : Bool} (hs : AccountLaws s)
    (h : execLimitSwitchChange g w active s = .next t) : AccountLaws t :=
  AccountLaws.event (fun _ hs => keeps_ite hs (hs.gateEvent g _)) hs h

theorem AccountLaws.phaseLapse (hs : AccountLaws s) (g : GateId) (p : Phase) (f : Nat → Gate → Gate) :
    AccountLaws (s.phaseLapse g p f) :=
  phaseLapse_keeps (fun _ _ h => h.same ⟨rfl, rfl⟩) (fun _ _ h => h.gateEvent g _) hs

theorem AccountLaws.execTagFrame {g : GateId} {f : List Byte} (hs : AccountLaws s)
    (h : execTagFrame g f s = .next t) : AccountLaws t := by
  refine AccountLaws.event (fun s hs => ?_) hs h
  have hset (x : Gate) : AccountLaws (s.setGate g x) := hs.same ⟨rfl, rfl⟩
  split
  · exact hset _
  · exact keeps_ite ((hset _).acceptedRead g _) (hset _)

theorem AccountLaws.execBoardTimerLapse {d : DeckId} (hs : AccountLaws s) (h : execBoardTimerLapse d s = .next t) :
    AccountLaws t := by
  refine AccountLaws.event (fun s hs => ?_) hs h
  split
  · next v _ =>
    split
    · next due _ _ => exact (AccountLaws.undo (s := s.reach due) (hs.same ⟨rfl, rfl⟩) v.slot).same ⟨rfl, rfl⟩
    · exact hs
  · exact hs

theorem AccountLaws.execEmergencyInputChange {active : Bool} (hs : AccountLaws s)
    (h : execEmergencyInputChange active s = .next t) : AccountLaws t := by
  refine AccountLaws.event (fun s hs => ?_) hs h
  have hinput : AccountLaws { s with emergency := { s.emergency with input := active } } := hs.same ⟨rfl, rfl⟩
  exact keeps_ite hs (keeps_ite hinput.setLatch hinput)

theorem AccountLaws.jobLapse {due : JobPhase → Option Nat} {f : State → Job → State}
    (hf : ∀ s j, AccountLaws s → AccountLaws (f s j)) (hs : AccountLaws s) : AccountLaws (s.jobLapse due f) :=
  jobLapse_keeps (fun _ _ h => h.same ⟨rfl, rfl⟩) hf hs

theorem AccountLaws.execPfltChange {p : PrinterId} {active : Bool} (hs : AccountLaws s)
    (h : execPfltChange p active s = .next t) : AccountLaws t := by
  refine AccountLaws.event (fun s hs => ?_) hs h
  have hpins (x : PrinterPins) : AccountLaws (s.setPins p x) := hs.same ⟨rfl, rfl⟩
  dsimp only
  split
  · exact hs
  · split
    · exact keeps_ite ((hpins _).faultJob _ _) (hpins _)
    · exact hpins _

theorem AccountLaws.execPdoneChange {p : PrinterId} {active : Bool} (hs : AccountLaws s)
    (h : execPdoneChange p active s = .next t) : AccountLaws t := by
  refine AccountLaws.event (fun s hs => ?_) hs h
  have hpins (x : PrinterPins) : AccountLaws (s.setPins p x) := hs.same ⟨rfl, rfl⟩
  dsimp only
  split
  · exact hs
  · split
    · split
      · exact keeps_ite ((hpins _).finishJob _) (hpins _)
      · exact hpins _
    · exact hpins _

/-! ### Every command, every step -/

theorem AccountLaws.exec {c : Instr} (hs : AccountLaws s) (h : exec c s = .next t) : AccountLaws t := by
  cases hmoves : movesBooks c with
  | false => exact hs.same (exec_sameBooks hmoves h)
  | true =>
    cases c with
    | amend => exact hs.execAmend h
    | cancelVisit => exact hs.execCancelVisit h
    | resolveClose => exact hs.execResolveClose h
    | resolveDiscard => exact hs.execResolveDiscard h
    | collect => exact hs.execCollect h
    | redirect => exact hs.execRedirect h
    | reprint => exact hs.execReprint h
    | putAccount => exact hs.execPutAccount h
    | credit => exact hs.execCredit h
    | stop => exact hs.execStop h
    | release => exact hs.execRelease h
    | dropAccount => exact hs.execDropAccount h
    | raise | lower => exact AccountLaws.request (fun _ hs => hs.hostMove _ _) hs h
    | resetGate => exact hs.execResetGate h
    | unlock => exact hs.execUnlock h
    | call => exact hs.execCall h
    | manualCapture => exact hs.execManualCapture h
    | cancelSession => exact hs.execCancelSession h
    | emergencyRelease => exact hs.execEmergencyRelease h
    | releasePrinter => exact hs.execReleasePrinter h
    | resumePrinter => exact hs.execResumePrinter h
    | setClock => exact hs.execSetClock h
    | setSite => exact hs.execSetSite h
    | restart => exact hs.execRestart h
    | clearTables => exact hs.execClearTables h
    | powerOn => exact hs.execPowerOn h
    | pinReset => exact AccountLaws.event (fun _ hs => hs.performReset _ _ _) hs h
    | cycleSlot => exact hs.execCycleSlot h
    | cellAnswer => exact hs.execCellAnswer h
    | answerWindowLapse => exact hs.execAnswerWindowLapse h
    | loopStateChange => exact hs.execLoopStateChange h
    | limitSwitchChange => exact hs.execLimitSwitchChange h
    | warnTimeLapse | driveLimitLapse | settleTimeLapse =>
      exact AccountLaws.event (fun _ hs => hs.phaseLapse _ _ _) hs h
    | tagFrame => exact hs.execTagFrame h
    | boardTimerLapse => exact hs.execBoardTimerLapse h
    | yardClockAdvance => exact hs.execYardClockAdvance h
    | emergencyInputChange => exact hs.execEmergencyInputChange h
    | strobeTimeLapse => exact AccountLaws.event (fun _ => AccountLaws.jobLapse fun _ j h => h.strobeEnd j) hs h
    | holdTimeLapse => exact AccountLaws.event (fun _ => AccountLaws.jobLapse fun _ j h => h.byteEnd j) hs h
    | busyWaitLapse | completionLimitLapse =>
      exact AccountLaws.event (fun _ => AccountLaws.jobLapse fun _ j h => h.faultJob j _) hs h
    | pfltChange => exact hs.execPfltChange h
    | pdoneChange => exact hs.execPdoneChange h
    | _ => cases hmoves

/-- Settles O59: every command keeps the laws of the accounts, each write of a slot with the counts that go with it. -/
theorem stepKeepsTheAccounts : Obligations.StepKeepsTheAccounts := by
  intro s t _ hcounts hcredit h
  exact step_keeps (P := AccountLaws) (fun _ _ hs => hs.same ⟨rfl, rfl⟩) (fun _ _ hs => hs.same ⟨rfl, rfl⟩)
    (fun _ _ _ hs h => hs.exec h) ⟨hcounts, hcredit⟩ h

end Sys2Proof.Machine
end

section
/-! PROOFS. What GET_VEHICLE, GET_ACCOUNT and GET_KIND answer (R68, R71, R82, R84), with the codes of tags, accounts and
waste kinds. -/

namespace Sys2Proof.Machine

/-! ### Codes (R44, R56, R83) -/

theorem tagOf_of_ne {t : Tag} (h : t ≠ 0) : tagOf t = some t := if_neg h

theorem accountOf_of_ne {n : AccountNo} (h : n ≠ 0) : accountOf n = some n := if_neg h

/-! ### The reads -/

section Reads

variable {s : State}

/-- The stored tare of an entry judged on a day (R68). -/
theorem tareValid_eq (v : Vehicle) (today : Nat) : v.tareValid today =
    match v.tare with
    | some t => decide (t.day ≤ today ∧ today - t.day < v.validity)
    | none => false := by
  unfold Vehicle.tareValid
  cases v.tare with
  | none => rfl
  | some t => exact (Bool.decide_and ..).symm

/-- The answer of GET_VEHICLE for what its lookup finds (R71). -/
def State.entryAnswered (s : State) (found : Option Vehicle) : State :=
  match found with
  | some v => s.answered Code.getVehicle .done
      (.vehicle v (v.tareValid (dayOf s.service.clock)) (dayOf s.service.clock))
  | none => s.answered Code.getVehicle .notFound

theorem query_vehicle {f : State → Reply} {found : Option Vehicle} (h : s.listening)
    (hf : f s = s.vehicleReply found) : query Code.getVehicle f s = .next (s.entryAnswered found) := by
  cases found with
  | none => exact query_bare h hf
  | some v => exact query_done h hf

/-- GET_VEHICLE by tag, by plate, and by any other mode (R71). -/
theorem exec_getVehicle (h : s.listening) (mode : Byte) (key : List Byte) : exec (.getVehicle mode key) s = .next (
    if mode = 2 then
      match keyTag key with
      | none => s.answered Code.getVehicle .outOfRange
      | some t => s.entryAnswered (s.vehicle t)
    else if mode = 3 then
      match plateOf key with
      | none => s.answered Code.getVehicle .outOfRange
      | some p => s.entryAnswered (s.vehicles.find? fun v => v.plate == p)
    else s.answered Code.getVehicle .malformed) := by
  change query Code.getVehicle _ s = _
  by_cases htag : mode = 2
  · rw [if_pos htag]
    cases hk : keyTag key with
    | none => exact query_bare h (by simp only [if_pos htag])
    | some t => exact query_vehicle h (by simp only [if_pos htag])
  · rw [if_neg htag]
    by_cases hplate : mode = 3
    · rw [if_pos hplate]
      cases hk : plateOf key with
      | none => exact query_bare h (by simp only [if_neg htag, if_pos hplate])
      | some p => exact query_vehicle h (by simp only [if_neg htag, if_pos hplate])
    · rw [if_neg hplate]
      exact query_bare h (by simp only [if_neg htag, if_neg hplate])

theorem exec_getAccount (h : s.listening) (n : AccountNo) : exec (.getAccount n) s = .next (
    if n = 0 then s.answered Code.getAccount .outOfRange
    else match s.account n with
      | some a => s.answered Code.getAccount .done (.account a)
      | none => s.answered Code.getAccount .notFound) := by
  change query Code.getAccount _ s = _
  by_cases hn : n = 0
  · subst hn
    exact query_bare h rfl
  · rw [if_neg hn]
    cases ha : s.account n with
    | none => exact query_bare h (by simp only [State.withAccount, accountOf_of_ne hn, ha])
    | some a => exact query_done h (by simp only [State.withAccount, accountOf_of_ne hn, ha])

theorem exec_getKind (h : s.listening) (code : Byte) : exec (.getKind code) s = .next (
    if 1 ≤ code.toNat ∧ code.toNat ≤ 32 then s.answered Code.getKind .done (.kind code.toNat (s.kind code.toNat))
    else s.answered Code.getKind .outOfRange) := by
  change query Code.getKind _ s = _
  by_cases hc : 1 ≤ code.toNat ∧ code.toNat ≤ 32
  · rw [if_pos hc]
    exact query_done h (by simp only [kindCodeOf, if_pos hc])
  · rw [if_neg hc]
    exact query_bare h (by simp only [kindCodeOf, if_neg hc])

end Reads

/-- Settles O6: the three reads, with the stored tare judged as R68 says. -/
theorem tableReads : Obligations.TableReads := by
  intro s h today entry
  have hanswered (found : Option Vehicle) : s.entryAnswered found = match found with
      | some v => s.answered Code.getVehicle .done (entry v)
      | none => s.answered Code.getVehicle .notFound := by
    cases found with
    | none => rfl
    | some v =>
      rw [State.entryAnswered, tareValid_eq]
      rfl
  refine ⟨fun mode key => ?_, exec_getAccount h, exec_getKind h⟩
  rw [exec_getVehicle h]
  simp only [hanswered]
  rfl

end Sys2Proof.Machine
end

section
/-! PROOFS. PUT_VEHICLE, DROP_VEHICLE and SET_TARE_FROM_DECK (R67, R69, R70, R72, R73): the registration that a body
carries, the checks in their order, and the entry written. -/

namespace Sys2Proof.Machine

/-! ### The body of PUT_VEHICLE (R69) -/

/-- The fields of a PUT_VEHICLE body but for the tare lie inside their ranges (R69 step 1). -/
structure FieldsInRange (b : VehicleBody) : Prop where
  tag : b.tag ≠ 0
  plate : plateOf b.plate ≠ none
  account : b.account ≠ 0
  kind : 1 ≤ b.kind.toNat ∧ b.kind.toNat ≤ 32
  direction : b.direction = 1 ∨ b.direction = 2
  state : b.state = 1 ∨ b.state = 2
  autoTare : b.autoTare = 0 ∨ b.autoTare = 1
  tareMode : b.tareMode = 1 ∨ b.tareMode = 2 ∨ b.tareMode = 3
  validity : 1 ≤ b.validity.toNat ∧ b.validity.toNat ≤ 365

/-- The tare that a PUT_VEHICLE body carries lies inside its ranges (R69 step 2). -/
def TareInRange (b : VehicleBody) : Prop :=
  0 ≤ b.tareWeight.toInt ∧ b.tareWeight.toInt ≤ 200000 ∧ b.tareDay.toNat ≤ 49710 ∧ (b.tareDeck = 1 ∨ b.tareDeck = 2)

/-- The entry of a PUT_VEHICLE body with its plate, but for the stored tare (R70). -/
def registered (b : VehicleBody) (plate : Plate) : Vehicle :=
  { tag := b.tag, plate := plate, account := b.account, kind := b.kind.toNat
    direction := if b.direction = 1 then .deliver else .collect, barred := decide (b.state = 2)
    autoTare := decide (b.autoTare = 1), tare := none, validity := b.validity.toNat }

/-- What a PUT_VEHICLE body does with the stored tare, its code inside the range (R70). -/
def modeOf (b : VehicleBody) : TareMode :=
  if b.tareMode = 1 then .keep else if b.tareMode = 2 then .set else .clear

theorem modeOf_eq_set_iff (b : VehicleBody) : modeOf b = .set ↔ b.tareMode = 2 := by
  unfold modeOf
  split
  · next hkeep =>
    rw [hkeep]
    decide
  · split
    · next hset => exact ⟨fun _ => hset, fun _ => rfl⟩
    · next hset => exact ⟨nofun, fun h => (hset h).elim⟩

section Codes

variable {c : Byte}

/-- A code of several values is one where it is the first, or one of the others. -/
theorem ite_some_ne_none_iff {α : Type} {p : Prop} [Decidable p] {x : α} {rest : Option α} :
    (if p then some x else rest) ≠ none ↔ p ∨ rest ≠ none := by
  by_cases h : p <;> simp [h]

theorem kindCodeOf_ne_none_iff : kindCodeOf c ≠ none ↔ 1 ≤ c.toNat ∧ c.toNat ≤ 32 := by
  rw [kindCodeOf, ite_some_ne_none_iff, or_iff_left (not_not.2 rfl)]

theorem directionOf_ne_none_iff : directionOf c ≠ none ↔ c = 1 ∨ c = 2 := by
  rw [directionOf, ite_some_ne_none_iff, ite_some_ne_none_iff, or_iff_left (not_not.2 rfl)]

theorem barredOf_ne_none_iff : barredOf c ≠ none ↔ c = 1 ∨ c = 2 := by
  rw [barredOf, ite_some_ne_none_iff, ite_some_ne_none_iff, or_iff_left (not_not.2 rfl)]

theorem flagOf_ne_none_iff : flagOf c ≠ none ↔ c = 0 ∨ c = 1 := by
  rw [flagOf, ite_some_ne_none_iff, ite_some_ne_none_iff, or_iff_left (not_not.2 rfl)]

theorem tareModeOf_ne_none_iff : tareModeOf c ≠ none ↔ c = 1 ∨ c = 2 ∨ c = 3 := by
  rw [tareModeOf, ite_some_ne_none_iff, ite_some_ne_none_iff, ite_some_ne_none_iff, or_iff_left (not_not.2 rfl)]

theorem deckOf_ne_none_iff : deckOf c ≠ none ↔ c = 1 ∨ c = 2 := by
  rw [deckOf, ite_some_ne_none_iff, ite_some_ne_none_iff, or_iff_left (not_not.2 rfl)]

end Codes

/-- A body that carries a registration has its fields inside their ranges (R69 step 1). -/
theorem fieldsInRange_of_registrationOf {b : VehicleBody} (h : registrationOf b ≠ none) : FieldsInRange b := by
  unfold registrationOf at h
  split at h
  · next ht hp ha hk hd hx hauto hm =>
    have hcode {α : Type} {o : Option α} {x : α} (ho : o = some x) : o ≠ none := by rw [ho]; exact nofun
    refine ⟨fun hzero => ?_, hcode hp, fun hzero => ?_, kindCodeOf_ne_none_iff.1 (hcode hk),
      directionOf_ne_none_iff.1 (hcode hd), barredOf_ne_none_iff.1 (hcode hx), flagOf_ne_none_iff.1 (hcode hauto),
      tareModeOf_ne_none_iff.1 (hcode hm), by_contra fun hv => h (if_neg hv)⟩
    · rw [hzero] at ht
      cases ht
    · rw [hzero] at ha
      cases ha
  · exact (h rfl).elim

theorem registrationOf_eq {b : VehicleBody} {plate : Plate} (hp : plateOf b.plate = some plate)
    (h : FieldsInRange b) : registrationOf b = some (registered b plate, modeOf b) := by
  have hdirection : directionOf b.direction = some (registered b plate).direction := by
    rcases h.direction with hd | hd <;> simp [directionOf, registered, hd]
  have hbarred : barredOf b.state = some (registered b plate).barred := by
    rcases h.state with hx | hx <;> simp [barredOf, registered, hx]
  have hauto : flagOf b.autoTare = some (registered b plate).autoTare := by
    rcases h.autoTare with ha | ha <;> simp [flagOf, registered, ha]
  have hmode : tareModeOf b.tareMode = some (modeOf b) := by
    rcases h.tareMode with hm | hm | hm <;> simp [tareModeOf, modeOf, hm]
  have hkind : kindCodeOf b.kind = some b.kind.toNat := if_pos h.kind
  simp only [registrationOf, tagOf_of_ne h.tag, hp, accountOf_of_ne h.account, hkind, hdirection, hbarred, hauto, hmode,
    if_pos h.validity]
  rfl

theorem tareOf_inRange {b : VehicleBody} (h : TareInRange b) :
    tareOf b = some ⟨b.tareWeight.toInt.toNat, b.tareDay.toNat, if b.tareDeck = 1 then .d1 else .d2⟩ := by
  obtain ⟨hmin, hmax, hday, hdeck⟩ := h
  have hd : deckOf b.tareDeck = some (if b.tareDeck = 1 then .d1 else .d2) := by
    rcases hdeck with hdeck | hdeck <;> simp [deckOf, hdeck]
  simp only [tareOf, hd, if_pos (And.intro hmin (And.intro hmax hday))]

theorem tareOf_outOfRange {b : VehicleBody} (h : ¬ TareInRange b) : tareOf b = none := by
  unfold tareOf
  split
  · next d hd =>
    have hdeck := deckOf_ne_none_iff.1 (show deckOf b.tareDeck ≠ none by rw [hd]; exact nofun)
    exact if_neg fun ⟨hmin, hmax, hday⟩ => h ⟨hmin, hmax, hday, hdeck⟩
  · rfl

/-! ### PUT_VEHICLE (R69, R70) -/

section Put

variable {s : State} {b : VehicleBody} {plate : Plate}

theorem plateTaken_iff (s : State) (t : Tag) (p : Plate) :
    s.plateTaken t p = true ↔ ∃ v ∈ s.vehicles, v.plate = p ∧ v.tag ≠ t := by
  simp [State.plateTaken]

/-- The stored tare that PUT_VEHICLE writes (R70). -/
theorem tareWritten_eq (s : State) (b : VehicleBody) (carried : Option Tare) : s.tareWritten b.tag (modeOf b) carried =
    if b.tareMode = 1 then (s.vehicle b.tag).bind fun v => v.tare
    else if b.tareMode = 2 then carried else none := by
  unfold modeOf
  split
  · rfl
  · split <;> rfl

/-- A body with a field or a tare outside its range (R69 steps 1 and 2). -/
theorem exec_putVehicle_outOfRange (h : s.listening)
    (hb : ¬ FieldsInRange b ∨ (b.tareMode = 2 ∧ ¬ TareInRange b)) :
    exec (.putVehicle b) s = .next (s.answered Code.putVehicle .outOfRange) := by
  refine request_bare (t := s) h ?_
  by_cases hfields : FieldsInRange b
  · obtain ⟨hmode, htare⟩ := hb.resolve_left (not_not.2 hfields)
    obtain ⟨plate, hp⟩ := Option.ne_none_iff_exists'.1 hfields.plate
    simp only [registrationOf_eq hp hfields]
    exact if_pos ⟨(modeOf_eq_set_iff b).2 hmode, by rw [tareOf_outOfRange htare]; rfl⟩
  · have hnone : registrationOf b = none := by_contra fun hsome => hfields (fieldsInRange_of_registrationOf hsome)
    simp only [hnone]

/-- A body inside its ranges: the plate, the room, and the entry written (R69 steps 3 and 4, R70). -/
theorem exec_putVehicle (h : s.listening) (hp : plateOf b.plate = some plate) (hfields : FieldsInRange b)
    (htare : b.tareMode = 2 → TareInRange b) : exec (.putVehicle b) s = .next (
      if s.plateTaken b.tag plate then s.answered Code.putVehicle .conflict
      else if (s.vehicle b.tag).isNone ∧ 512 ≤ s.vehicles.length then s.answered Code.putVehicle .full
      else (s.putVehicle { registered b plate with tare := s.tareWritten b.tag (modeOf b) (tareOf b) }).answered
        Code.putVehicle .done) := by
  have hcarried : ¬ (modeOf b = .set ∧ (tareOf b).isNone = true) := by
    rintro ⟨hmode, hnone⟩
    rw [tareOf_inRange (htare ((modeOf_eq_set_iff b).1 hmode))] at hnone
    cases hnone
  have htag : (registered b plate).tag = b.tag := rfl
  have hplate : (registered b plate).plate = plate := rfl
  change request Code.putVehicle _ s = _
  rw [request_performed _ _ _ h]
  simp only [registrationOf_eq hp hfields, if_neg hcarried, htag, hplate]
  split
  · rfl
  · split <;> rfl

end Put

/-- Settles O23: the ranges of the body, then the checks on the table and the entry. -/
theorem putVehicleWritesTheEntry : Obligations.PutVehicleWritesTheEntry := by
  intro s b h e badFields badTare
  have hbad : ¬ FieldsInRange b ↔ badFields := by
    constructor
    · intro hout
      by_contra hgood
      simp only [badFields, not_or, not_and_or, not_not] at hgood
      obtain ⟨htag, hplate, haccount, hkind, hdirection, hstate, hauto, hmode, hvalidity⟩ := hgood
      exact hout ⟨htag, hplate, haccount, hkind, hdirection, hstate, hauto, hmode, hvalidity⟩
    · rintro (hx | hx | hx | hx | hx | hx | hx | hx | hx) hin
      · exact hin.tag hx
      · exact hin.plate hx
      · exact hin.account hx
      · exact hx hin.kind
      · exact hx hin.direction
      · exact hx hin.state
      · exact hx hin.autoTare
      · exact hx hin.tareMode
      · exact hx hin.validity
  refine ⟨fun hout => exec_putVehicle_outOfRange h (hout.imp_left hbad.2), ?_⟩
  intro plate hp hfields htare taken full entry
  have hin : b.tareMode = 2 → TareInRange b := fun hset => by_contra fun hout => htare ⟨hset, hout⟩
  have hentry : entry = { registered b plate with tare := s.tareWritten b.tag (modeOf b) (tareOf b) } := by
    rw [tareWritten_eq]
    by_cases hset : b.tareMode = 2
    · rw [tareOf_inRange (hin hset)]
      rfl
    · simp only [entry, if_neg hset]
      rfl
  have htaken : s.plateTaken b.tag plate = true ↔ taken := plateTaken_iff s b.tag plate
  have hfull : ((s.vehicle b.tag).isNone = true ∧ 512 ≤ s.vehicles.length) ↔ full := by
    rw [Option.isNone_iff_eq_none]
  have hexec : e = _ := exec_putVehicle h hp (not_not.1 (hbad.not.2 hfields)) hin
  refine ⟨fun ht => ?_, fun ht hf => ?_, fun ht hf => ⟨?_, ?_, fun g hg => ?_⟩⟩
  · rw [hexec, if_pos (htaken.2 ht)]
  · rw [hexec, if_neg (htaken.not.2 ht), if_pos (hfull.2 hf)]
  · rw [hexec, if_neg (htaken.not.2 ht), if_neg (hfull.not.2 hf), hentry]
  · rw [vehicle_putVehicle]
    exact if_pos rfl
  · rw [vehicle_putVehicle]
    exact if_neg hg

/-! ### DROP_VEHICLE and SET_TARE_FROM_DECK (R72, R73) -/

section Requests

variable {s : State} {tag : Tag}

theorem exec_dropVehicle (h : s.listening) (tag : Tag) : exec (.dropVehicle tag) s = .next (
    if tag = 0 then s.answered Code.dropVehicle .outOfRange
    else if s.vehicle tag = none then s.answered Code.dropVehicle .notFound
    else State.answered { s with vehicles := s.vehicles.filter fun v => v.tag != tag } Code.dropVehicle .done) := by
  change request Code.dropVehicle _ s = _
  by_cases ht : tag = 0
  · subst ht
    exact request_bare h rfl
  · rw [if_neg ht]
    cases hv : s.vehicle tag with
    | none => exact request_bare h (by simp only [tagOf_of_ne ht, hv]; rfl)
    | some v => exact request_bare h (by simp only [tagOf_of_ne ht, hv]; rfl)

/-- SET_TARE_FROM_DECK on an entry that is there: the deck's checks in their order (R73). -/
theorem exec_setTareFromDeck_entry {v : Vehicle} {b : Byte} {d : DeckId} (h : s.listening) (ht : tag ≠ 0)
    (hd : deckOf b = some d) (hv : s.vehicle tag = some v) : exec (.setTareFromDeck tag b) s = .next (
      if (s.deck d).unit.reading.availability ≠ .ready then s.answered Code.setTareFromDeck .deckUnavailable
      else if (s.deck d).session ≠ none then s.answered Code.setTareFromDeck .wrongState
      else if (s.deck d).stable = false ∨ (s.deck d).unit.reading.current = false then
        s.answered Code.setTareFromDeck .wrongState
      else if (s.deck d).loaded = false ∨ (s.deck d).withinMax = false then s.answered Code.setTareFromDeck .wrongState
      else (s.putVehicle { v with tare := some (s.tareFromDeck d) }).answered Code.setTareFromDeck .done
        (.tare (s.tareFromDeck d))) := by
  change request Code.setTareFromDeck _ s = _
  rw [request_performed _ _ _ h]
  simp only [tagOf_of_ne ht, hd, hv, Option.isSome_iff_ne_none, Bool.or_eq_true, Bool.not_eq_true']
  iterate 4
    split
    · rfl
  rfl

theorem exec_setTareFromDeck_outOfRange {b : Byte} (h : s.listening) (hb : deckOf b = none ∨ tag = 0) :
    exec (.setTareFromDeck tag b) s = .next (s.answered Code.setTareFromDeck .outOfRange) := by
  refine request_bare (t := s) h ?_
  rcases hb with hd | rfl
  · cases tagOf tag <;> simp only [hd]
  · rfl

theorem exec_setTareFromDeck_notFound {b : Byte} {d : DeckId} (h : s.listening) (ht : tag ≠ 0) (hd : deckOf b = some d)
    (hv : s.vehicle tag = none) :
    exec (.setTareFromDeck tag b) s = .next (s.answered Code.setTareFromDeck .notFound) :=
  request_bare (t := s) h (by simp only [tagOf_of_ne ht, hd, hv])

end Requests

/-- Settles O24: the two requests, each by its checks in their order. -/
theorem vehicleEntriesDropAndTare : Obligations.VehicleEntriesDropAndTare := by
  intro s tag h
  refine ⟨exec_dropVehicle h tag, fun b => ?_⟩
  cases hd : deckOf b with
  | none => exact exec_setTareFromDeck_outOfRange h (.inl hd)
  | some d =>
    dsimp only
    by_cases ht : tag = 0
    · rw [if_pos ht]
      exact exec_setTareFromDeck_outOfRange h (.inr ht)
    · rw [if_neg ht]
      cases hv : s.vehicle tag with
      | none => exact exec_setTareFromDeck_notFound h ht hd hv
      | some v => exact exec_setTareFromDeck_entry h ht hd hv

end Sys2Proof.Machine
end

section
/-! PROOFS. The requests on accounts and waste kinds (R76 to R81, R84, R86): the examination that the account requests
share, the account that each leaves, PUT_KIND, and the charge of a net. -/

namespace Sys2Proof.Machine

/-! ### PUT_ACCOUNT (R76, R77) -/

theorem clamped_limit (limit : Byte) : clamped 1 32 limit.toNat = decide (limit.toNat < 1 ∨ 32 < limit.toNat) := by
  rw [clamped, clamp, Bool.eq_iff_iff, bne_iff_ne, decide_eq_true_eq]
  omega

/-- An account of that number with the floor and the limit changed, in the state that follows (R77). -/
def Account.rebounded (a : Account) (floor : Int) (limit : Nat) : Account :=
  { a with floor := floor, limit := limit }.settle

section Requests

variable {s : State} {n : AccountNo}

theorem exec_putAccount (h : s.listening) (n : AccountNo) (opening floor : BitVec 32) (limit : Byte) :
    exec (.putAccount n opening floor limit) s = .next (
      let l := clamp 1 32 limit.toNat
      if n = 0 then s.answered Code.putAccount .outOfRange
      else match s.account n with
        | some a => (s.putAccount (a.rebounded floor.toInt l)).answered Code.putAccount .done
            (.account (a.rebounded floor.toInt l)) (clamped 1 32 limit.toNat)
        | none =>
          if 64 ≤ s.accounts.length then s.answered Code.putAccount .full
          else (s.putAccount (newAccount n opening.toInt floor.toInt l)).answered Code.putAccount .done
            (.account (newAccount n opening.toInt floor.toInt l)) (clamped 1 32 limit.toNat)) := by
  change request Code.putAccount _ s = _
  rw [request_performed _ _ _ h]
  by_cases hn : n = 0
  · subst hn
    rfl
  · simp only [if_neg hn, accountOf_of_ne hn]
    cases s.account n with
    | some a => rfl
    | none =>
      dsimp only
      split <;> rfl

/-! ### Requests on an account that is there (R78 to R81) -/

/-- What an account request comes to: the number's range, then the account, then the request's own part. -/
def State.onAccount (s : State) (n : AccountNo) (kind : Byte) (own : Account → State) : State :=
  if n = 0 then s.answered kind .outOfRange
  else match s.account n with
    | none => s.answered kind .notFound
    | some a => own a

/-- An account request whose own part answers for the account that is there (R78 to R82). -/
theorem request_account {kind : Byte} {own : State → Account → State × Reply} {answered : Account → State}
    (h : s.listening) (hown : ∀ a, s.account n = some a →
      { (own s a).1 with link := some ((own s a).2.toAnswer kind) } = answered a) :
    request kind (fun s => s.withAccount n (own s)) s = .next (s.onAccount n kind answered) := by
  rw [request_performed _ _ _ h]
  unfold State.onAccount State.withAccount
  by_cases hn : n = 0
  · subst hn
    rfl
  · rw [if_neg hn, accountOf_of_ne hn]
    dsimp only
    cases ha : s.account n with
    | none => rfl
    | some a => exact congrArg _ (hown a ha)

/-- What an account becomes by a CREDIT (R78). -/
theorem credit_eq (a : Account) (amount : BitVec 32) : a.credit amount.toInt =
    if amount = 0 then a
    else { a with
      balance := saturate (a.balance + amount.toInt)
      state := match a.state with
        | .stoppedHold => .stoppedHold
        | .active => if saturate (a.balance + amount.toInt) ≤ a.floor then .stoppedAuto else .active
        | .stoppedAuto => if a.floor < saturate (a.balance + amount.toInt) then .active else .stoppedAuto } := by
  have hzero : amount.toInt = 0 ↔ amount = 0#32 := by rw [← BitVec.toInt_inj, BitVec.toInt_zero]
  unfold Account.credit
  by_cases h : amount = 0
  · rw [if_pos h, if_pos (hzero.2 h)]
  · rw [if_neg h, if_neg (hzero.not.2 h), settle_eq]
    generalize saturate (a.balance + amount.toInt) = balance
    cases hst : a.state with
    | active =>
      dsimp only
      by_cases hb : balance ≤ a.floor
      · simp [hb, not_lt.2 hb]
      · simp [hb, not_le.1 hb]
    | stoppedAuto | stoppedHold => simp

theorem stops_iff (a b : Account) : a.stops b = true ↔ a.state = .active ∧ b.state = .stoppedAuto := by
  simp [Account.stops]

theorem exec_credit (h : s.listening) (amount : BitVec 32) :
    exec (.credit n amount) s = .next (s.onAccount n Code.credit fun a =>
      (if a.state = .active ∧ (a.credit amount.toInt).state = .stoppedAuto then
          (s.putAccount (a.credit amount.toInt)).raise .accountStopped (.account a.number)
        else s.putAccount (a.credit amount.toInt)).answered Code.credit .done (.account (a.credit amount.toInt))) := by
  refine request_account h fun a _ => ?_
  simp only [stops_iff]
  rfl

theorem exec_stop (h : s.listening) : exec (.stop n) s = .next (s.onAccount n Code.stop fun a =>
    (s.putAccount { a with state := .stoppedHold }).answered Code.stop .done
      (.account { a with state := .stoppedHold })) :=
  request_account h fun _ _ => rfl

theorem exec_release (h : s.listening) : exec (.release n) s = .next (s.onAccount n Code.release fun a =>
    if a.state = .stoppedHold then (s.putAccount a.released).answered Code.release .done (.account a.released)
    else s.answered Code.release .wrongState) := by
  refine request_account h fun a _ => ?_
  cases hst : a.state <;> rfl

theorem exec_dropAccount (h : s.listening) : exec (.dropAccount n) s = .next (s.onAccount n Code.dropAccount fun a =>
    if 0 < a.count then s.answered Code.dropAccount .wrongState
    else if s.register.slots.any (fun sl => sl.visit.any (Visit.keepsAccount a.number)) = true then
      s.answered Code.dropAccount .wrongState
    else State.answered { s with accounts := s.accounts.filter fun x => x.number != a.number }
      Code.dropAccount .done) := by
  refine request_account h fun a _ => ?_
  simp only [isSome_findSlot]
  split
  · rfl
  · split <;> rfl

end Requests

/-- Settles O25: PUT_ACCOUNT by whether the account is there, the other requests by the examination they share. -/
theorem accountRequests : Obligations.AccountRequests := by
  constructor
  · intro s n opening floor limit h l adjusted
    have hbounds (a : Account) : a.rebounded floor.toInt l = { a with
        floor := floor.toInt, limit := l
        state := match a.state with
          | .stoppedHold => .stoppedHold
          | _ => if floor.toInt < a.balance then .active else .stoppedAuto } := by
      rw [Account.rebounded, settle_eq]
      cases hst : a.state <;> rfl
    rw [exec_putAccount h, clamped_limit]
    split
    · rfl
    · cases s.account n with
      | none => rfl
      | some a =>
        exact congrArg (fun a' : Account => Host.Outcome.next
          ((s.putAccount a').answered Code.putAccount .done (.account a') adjusted)) (hbounds a)
  · intro s n h on
    refine ⟨fun amount => ?_, exec_stop h, exec_release h, exec_dropAccount h⟩
    rw [exec_credit h]
    simp only [credit_eq]
    rfl

/-! ### Waste kinds (R84, R86) -/

theorem kindDirectionsOf_ne_none_iff {c : Byte} : kindDirectionsOf c ≠ none ↔ c = 1 ∨ c = 2 ∨ c = 3 := by
  rw [kindDirectionsOf, ite_some_ne_none_iff, ite_some_ne_none_iff, ite_some_ne_none_iff,
    or_iff_left (not_not.2 rfl)]

/-- The fields of a PUT_KIND but for its code lie inside their ranges (R84). -/
structure KindInRange (accepted directions : Byte) (rate minimum : BitVec 32) : Prop where
  accepted : accepted = 0 ∨ accepted = 1
  directions : directions = 1 ∨ directions = 2 ∨ directions = 3
  rate : rate.toNat ≤ 10000000
  minimum : minimum.toNat ≤ 1000000

/-- The kind that a PUT_KIND carries, its codes inside their ranges (R84). -/
def carriedKind (accepted directions : Byte) (rate minimum : BitVec 32) : Kind :=
  { accepted := decide (accepted = 1)
    directions := if directions = 1 then .deliver else if directions = 2 then .collect else .both
    rate := rate.toNat, minimum := minimum.toNat }

section Kinds

variable {accepted directions : Byte} {rate minimum : BitVec 32}

theorem kindOf_inRange (h : KindInRange accepted directions rate minimum) :
    kindOf accepted directions rate minimum = some (carriedKind accepted directions rate minimum) := by
  have ha : flagOf accepted = some (carriedKind accepted directions rate minimum).accepted := by
    rcases h.accepted with rfl | rfl <;> rfl
  have hd : kindDirectionsOf directions = some (carriedKind accepted directions rate minimum).directions := by
    rcases h.directions with rfl | rfl | rfl <;> rfl
  simp only [kindOf, ha, hd, if_pos (And.intro h.rate h.minimum)]
  rfl

theorem kindInRange_of_kindOf (h : kindOf accepted directions rate minimum ≠ none) :
    KindInRange accepted directions rate minimum := by
  unfold kindOf at h
  split at h
  · next ha hd =>
    obtain ⟨hrate, hminimum⟩ := by_contra fun hout => h (if_neg hout)
    refine ⟨flagOf_ne_none_iff.1 ?_, kindDirectionsOf_ne_none_iff.1 ?_, hrate, hminimum⟩
    · rw [ha]
      exact nofun
    · rw [hd]
      exact nofun
  · exact (h rfl).elim

theorem exec_putKind_inRange {s : State} {code : Byte} (h : s.listening) (hc : 1 ≤ code.toNat ∧ code.toNat ≤ 32)
    (hk : KindInRange accepted directions rate minimum) :
    exec (.putKind code accepted directions rate minimum) s = .next (State.answered
      { s with kinds := s.kinds.set (code.toNat - 1) (carriedKind accepted directions rate minimum) }
      Code.putKind .done) := by
  have hcode : kindCodeOf code = some code.toNat := if_pos hc
  exact request_bare h (by simp only [hcode, kindOf_inRange hk])

theorem exec_putKind_outOfRange {s : State} {code : Byte} (h : s.listening)
    (hout : ¬ ((1 ≤ code.toNat ∧ code.toNat ≤ 32) ∧ KindInRange accepted directions rate minimum)) :
    exec (.putKind code accepted directions rate minimum) s = .next (s.answered Code.putKind .outOfRange) := by
  refine request_bare (t := s) h ?_
  split
  · next c k hc hk =>
    refine (hout ⟨kindCodeOf_ne_none_iff.1 ?_, kindInRange_of_kindOf ?_⟩).elim
    · rw [hc]
      exact nofun
    · rw [hk]
      exact nofun
  · rfl

end Kinds

/-- The charge is the larger of the minimum and the product with the rate, rounded half up (R86). -/
theorem charge_bounds (k : Kind) (net : Nat) : k.minimum ≤ charge k net ∧
    net * k.rate + 500 < 1000 * (charge k net + 1) ∧
      (charge k net = k.minimum ∨ 1000 * charge k net ≤ net * k.rate + 500) := by
  unfold charge
  generalize net * k.rate + 500 = product
  omega

/-- Settles O26: PUT_KIND inside and outside its ranges, and the bounds of the charge. -/
theorem kindsAndCharges : Obligations.KindsAndCharges := by
  refine ⟨fun s code accepted directions rate minimum h => ?_, charge_bounds⟩
  split
  · next hok =>
    obtain ⟨hmin, hmax, ha, hd, hrate, hminimum⟩ := hok
    exact exec_putKind_inRange h ⟨hmin, hmax⟩ ⟨ha, hd, hrate, hminimum⟩
  · next hbad =>
    refine exec_putKind_outOfRange h fun ⟨⟨hmin, hmax⟩, hk⟩ => hbad ?_
    exact ⟨hmin, hmax, hk.accepted, hk.directions, hk.rate, hk.minimum⟩

end Sys2Proof.Machine
end

section
/-! PROOFS. The loop guard at one gate (R99): what an operation on a gate channel does to a barrier that lowers in WARN or
DRIVE. -/

namespace Sys2Proof.Machine

variable {g : Gate}

/-- A gate whose loop is CLEAR is guarded, whatever its barrier does. -/
theorem guarded_of_clear (h : g.occupied = false) : g.guarded := by
  unfold Gate.guarded
  split
  · exact h
  · exact h
  · trivial

/-- A lowering that begins, in whichever phase, leaves the loop state. -/
theorem lowerDrive_occupied (g : Gate) (now : Nat) (o : Origin) : (g.lowerDrive now o).occupied = g.occupied := by
  unfold Gate.lowerDrive Gate.lowerSettle
  split_ifs <;> rfl

theorem beginLower_occupied (g : Gate) (now : Nat) (o : Origin) : (g.beginLower now o).occupied = g.occupied := by
  unfold Gate.beginLower
  split
  · exact lowerDrive_occupied g now o
  · rfl

theorem beginLower_guarded (h : g.occupied = false) (now : Nat) (o : Origin) : (g.beginLower now o).guarded :=
  guarded_of_clear ((beginLower_occupied g now o).trans h)

/-! ### Motions that end or rise (R93, R97) -/

/-- A lowering in SETTLE is past its guard. -/
theorem lowerSettle_guarded (g : Gate) (now : Nat) (o : Origin) : (g.lowerSettle now o).guarded := by
  unfold Gate.lowerSettle
  split <;> trivial

/-- A barrier that comes to rest at UP lowers again only over a CLEAR loop (R97). -/
theorem restUp_guarded (g : Gate) (now : Nat) : (g.restUp now).guarded := by
  unfold Gate.restUp
  split
  · split
    · trivial
    · next hclear =>
      exact beginLower_guarded (g := { g with request := none }) (Bool.eq_false_of_not_eq_true hclear) now _
  · trivial

theorem raiseSettle_guarded (g : Gate) (now : Nat) (o : Origin) : (g.raiseSettle now o).guarded := by
  unfold Gate.raiseSettle
  split
  · exact restUp_guarded g now
  · trivial

theorem reachUp_guarded (g : Gate) (now : Nat) (o : Origin) (forced : Bool) : (g.reachUp now o forced).guarded := by
  unfold Gate.reachUp
  split
  · trivial
  · exact raiseSettle_guarded g now o

theorem raiseDrive_guarded (g : Gate) (now : Nat) (o : Origin) (forced : Bool) : (g.raiseDrive now o forced).guarded := by
  unfold Gate.raiseDrive
  split
  · exact reachUp_guarded g now o forced
  · trivial

theorem beginRaise_guarded (g : Gate) (now : Nat) (o : Origin) : (g.beginRaise now o).guarded := by
  unfold Gate.beginRaise
  split
  · exact raiseDrive_guarded g now o false
  · trivial

theorem toFault_guarded (g : Gate) : g.toFault.guarded := trivial

/-! ### Requests (R94, R95) -/

theorem raiseRequest_guarded (h : g.guarded) (now : Nat) (o : Origin) : (g.raiseRequest now o).guarded := by
  unfold Gate.raiseRequest
  split
  · split
    · exact h
    · exact beginRaise_guarded _ now o
  · exact h
  · exact h
  · exact raiseDrive_guarded _ now o false
  · exact h
  · exact h

theorem lowerRequest_guarded (h : g.guarded) (now : Nat) (o : Origin) : (g.lowerRequest now o).guarded := by
  unfold Gate.lowerRequest
  split
  case h_4 =>
    split
    · exact h
    · next hclear =>
      exact beginLower_guarded (g := { g with request := none }) (Bool.eq_false_of_not_eq_true hclear) now o
  all_goals exact h

/-! ### Lapses, loop and switches (R93, R97 to R100) -/

theorem warnLapse_guarded (h : g.guarded) (now : Nat) : (g.warnLapse now).guarded := by
  unfold Gate.warnLapse
  split
  · exact raiseDrive_guarded g now _ _
  · next hb =>
    have hclear : g.occupied = false := by simpa only [Gate.guarded, hb] using h
    exact guarded_of_clear ((lowerDrive_occupied g now _).trans hclear)
  · exact h

theorem driveLapse_guarded (h : g.guarded) : g.driveLapse.guarded := by
  unfold Gate.driveLapse
  split
  · exact toFault_guarded g
  · exact toFault_guarded g
  · exact h

theorem settleLapse_guarded (h : g.guarded) (now : Nat) : (g.settleLapse now).guarded := by
  unfold Gate.settleLapse
  split
  · exact restUp_guarded g now
  · trivial
  · exact h

/-- The loop guard abandons a lowering in WARN or DRIVE when the loop becomes OCCUPIED (R99). -/
theorem loopChange_guarded (g : Gate) (now : Nat) (occupied : Bool) : (g.loopChange now occupied).guarded := by
  cases occupied with
  | false =>
    unfold Gate.loopChange
    dsimp only
    split
    · contradiction
    · contradiction
    · exact restUp_guarded _ now
    · exact guarded_of_clear rfl
  | true =>
    unfold Gate.loopChange
    dsimp only
    split
    · exact raiseDrive_guarded _ now _ _
    · exact raiseDrive_guarded _ now _ _
    · contradiction
    · next hwarn hdrive _ =>
      unfold Gate.guarded
      split
      · next o due hb => exact absurd rfl (hwarn o due hb)
      · next o due hb => exact absurd rfl (hdrive o due hb)
      · trivial

theorem setSwitch_guarded (h : g.guarded) (w : LimitSwitch) (active : Bool) : (g.setSwitch w active).guarded := by
  cases w <;> exact h

theorem switchChange_guarded (h : g.guarded) (now : Nat) (w : LimitSwitch) (active : Bool) :
    (g.switchChange now w active).guarded := by
  unfold Gate.switchChange
  dsimp only
  split
  · exact toFault_guarded _
  · split
    · exact reachUp_guarded _ now _ _
    · exact lowerSettle_guarded _ now _
    · exact setSwitch_guarded h _ _

/-! ### Emergency, reset and lock (R101, R102, R105, R106, R108) -/

theorem forcedRaise_guarded (g : Gate) (now : Nat) : (g.forcedRaise now).guarded := by
  cases hb : g.barrier with
  | raising p o due f =>
    cases p <;> simp only [Gate.forcedRaise, hb]
    · exact raiseDrive_guarded _ now _ _
    · exact raiseDrive_guarded _ now _ _
    · trivial
  | down | lowering => simpa only [Gate.forcedRaise, hb] using raiseDrive_guarded _ now _ _
  | fault =>
    simp only [Gate.forcedRaise, hb]
    split
    · trivial
    · exact raiseDrive_guarded _ now _ _
  | up | forced => simp only [Gate.forcedRaise, hb]; trivial

theorem releaseLower_guarded (h : g.guarded) (now : Nat) : (g.releaseLower now).guarded := by
  unfold Gate.releaseLower
  split
  · exact restUp_guarded _ now
  · trivial
  · exact h
  · exact lowerRequest_guarded h now .release

theorem restore_guarded (g : Gate) (now : Nat) (latch : Bool) : (g.restore now latch).guarded := by
  unfold Gate.restore
  dsimp only
  split
  · split
    · trivial
    · exact raiseDrive_guarded _ now _ _
  · split
    · split
      · exact restUp_guarded _ now
      · trivial
    · split
      · exact raiseRequest_guarded (g := { g with request := none, barrier := .down }) trivial now _
      · trivial

theorem unlock_guarded (h : g.guarded) (now : Nat) : (g.unlock now).guarded := by
  unfold Gate.unlock
  dsimp only
  split
  · exact beginRaise_guarded _ now _
  · exact h

theorem reset_guarded (g : Gate) (now : Nat) (pins : GatePins) : (g.reset now pins).guarded := by
  unfold Gate.reset
  dsimp only
  split
  · trivial
  · split
    · exact restUp_guarded _ now
    · trivial

end Sys2Proof.Machine
end

section
/-! PROOFS. The loop guard through every operation that reaches a gate (R99): requests, calls, sessions, gate events, the
cycles of a deck, the emergency and the resets. -/

namespace Sys2Proof.Machine

variable {s t : State}

/-! ### Replaced gates -/

/-- The loop guard speaks of the gates alone. -/
theorem LoopGuard.same (hs : LoopGuard s) (h : t.gates = s.gates) : LoopGuard t := fun g => gate_congr h g ▸ hs g

theorem LoopGuard.setGate (hs : LoopGuard s) (g : GateId) {x : Gate} (hx : x.guarded) : LoopGuard (s.setGate g x) := by
  intro h
  rw [gate_setGate]
  split
  · exact hx
  · exact hs h

theorem LoopGuard.setPass (hs : LoopGuard s) (g : GateId) (b : Bool) : LoopGuard (s.setPass g b) := hs.setGate g (hs g)

theorem LoopGuard.dropWaiting (hs : LoopGuard s) (g : GateId) : LoopGuard (s.dropWaiting g) := hs.setGate g (hs g)

theorem LoopGuard.holdCall (hs : LoopGuard s) (g : GateId) (f : CallForm) : LoopGuard (s.holdCall g f) :=
  hs.setGate g (hs g)

theorem LoopGuard.sendRaise (hs : LoopGuard s) (g : GateId) (o : Origin) : LoopGuard (s.sendRaise g o) :=
  hs.setGate g (raiseRequest_guarded (hs g) s.now o)

theorem LoopGuard.sendLower (hs : LoopGuard s) (g : GateId) (o : Origin) : LoopGuard (s.sendLower g o) :=
  hs.setGate g (lowerRequest_guarded (hs g) s.now o)

/-! ### Calls and offers (R115 to R121) -/

theorem LoopGuard.setUpSession (hs : LoopGuard s) (d : DeckId) (h : Heading) (n : Nat) :
    LoopGuard (s.setUpSession d h n) := by
  have hraised (g : GateId) := (hs.setPass g true).sendRaise g .session
  exact (hraised _).same rfl

theorem LoopGuard.takeCall (hs : LoopGuard s) (g : GateId) (f : CallForm) : LoopGuard (s.takeCall g f).1 := by
  unfold State.takeCall
  split
  · split
    · exact hs
    · split
      · exact (hs.same (openIn_records _ _ _ _).gates).setUpSession _ _ _
      · exact hs
  · split
    · exact hs
    · exact (hs.same (depart_records _ _ _).gates).setUpSession _ _ _

theorem LoopGuard.judgeCall (hs : LoopGuard s) (g : GateId) (f : CallForm) : LoopGuard (s.judgeCall g f).1 := by
  unfold State.judgeCall
  split
  · exact hs
  · split
    · exact hs
    · split
      · exact hs
      · exact hs.takeCall g f

theorem noteRefusal_gates (s : State) (g : GateId) (x : Decision) : (s.noteRefusal g x).gates = s.gates := by
  unfold State.noteRefusal
  split <;> rfl

theorem LoopGuard.arbitrateCall (hs : LoopGuard s) (g : GateId) (f : CallForm) : LoopGuard (s.arbitrateCall g f).1 := by
  unfold State.arbitrateCall
  dsimp only
  split
  · exact (hs.judgeCall g f).holdCall g f
  · exact (hs.judgeCall g f).same (noteRefusal_gates _ _ _)

theorem LoopGuard.offerOne (hs : LoopGuard s) (g : GateId) : LoopGuard (s.offerOne g) := by
  unfold State.offerOne
  split
  · exact hs
  · next c _ =>
    dsimp only
    split
    · exact hs
    · exact ((hs.judgeCall g c.form).dropWaiting g).same (noteRefusal_gates _ _ _)

theorem LoopGuard.offer (hs : LoopGuard s) (d : DeckId) : LoopGuard (s.offer d) :=
  keeps_ite (keeps_ite ((hs.offerOne _).offerOne _) (hs.offerOne _)) hs

theorem LoopGuard.refuseWaiting (hs : LoopGuard s) (d : DeckId) : LoopGuard (s.refuseWaiting d) := by
  have hone {s : State} (hs : LoopGuard s) (g : GateId) : LoopGuard (s.refuseOne g) :=
    keeps_ite ((hs.dropWaiting g).same rfl) hs
  rw [refuseWaiting_eq_refuseOne]
  exact hone (hone hs _) _

/-! ### The session (R122 to R131) -/

theorem LoopGuard.enterReleased (hs : LoopGuard s) (d : DeckId) (v : Serving) : LoopGuard (s.enterReleased d v) :=
  ((hs.setPass _ _).sendRaise _ .session).same rfl

theorem LoopGuard.enterClearing (hs : LoopGuard s) (d : DeckId) (v : Serving) : LoopGuard (s.enterClearing d v) :=
  ((hs.setPass _ _).sendLower _ .session).same rfl

theorem LoopGuard.enterOnDeck (hs : LoopGuard s) (d : DeckId) (v : Serving) : LoopGuard (s.enterOnDeck d v) :=
  ((hs.setPass _ _).sendLower _ .session).same rfl

theorem LoopGuard.vacate (hs : LoopGuard s) (d : DeckId) : LoopGuard (s.vacate d) :=
  ((hs.setPass _ false).setPass _ false).same rfl

theorem LoopGuard.undo (hs : LoopGuard s) (n : Nat) : LoopGuard (s.undo n) := hs.same (undo_records s n).gates

theorem LoopGuard.captureInto (hs : LoopGuard s) (d : DeckId) (v : Serving) (w : Weighing) :
    LoopGuard (s.captureInto d v w) :=
  (hs.same (capture_records s _ _ _).gates).enterReleased d _

theorem LoopGuard.captureTest (hs : LoopGuard s) (d : DeckId) : LoopGuard (s.captureTest d) := by
  unfold State.captureTest
  split
  · exact keeps_ite (hs.captureInto d _ _) hs
  · exact hs

theorem LoopGuard.clearingTest (hs : LoopGuard s) (d : DeckId) (v : Serving) : LoopGuard (s.clearingTest d v) :=
  keeps_ite ((hs.vacate d).offer d) (keeps_ite (hs.enterReleased d v) (keeps_ite ((hs.vacate d).offer d) hs))

theorem LoopGuard.clearWaived (hs : LoopGuard s) (d : DeckId) (v : Serving) : LoopGuard (s.clearWaived d v) :=
  (hs.enterClearing d _).clearingTest d _

theorem LoopGuard.sessionBarrier (hs : LoopGuard s) (g : GateId) : LoopGuard (s.sessionBarrier g) := by
  unfold State.sessionBarrier
  split
  · split
    · exact hs.captureTest _
    · exact keeps_ite (hs.clearingTest _ _) hs
    · exact hs
  · exact hs

theorem LoopGuard.sessionLoop (hs : LoopGuard s) (g : GateId) (occupied : Bool) :
    LoopGuard (s.sessionLoop g occupied) := by
  have hset (x : Option Serving) : LoopGuard (s.setSession g.deck x) := hs.same rfl
  unfold State.sessionLoop
  dsimp only
  split
  · next v _ =>
    cases v.stage with
    | onDeck => exact hs.captureTest _
    | called | boarding | released => exact keeps_ite (hset _) hs
    | leaving => exact keeps_ite (keeps_ite (hs.clearWaived _ _) (hset _)) hs
    | clearing => exact keeps_ite (hset _) (hs.clearingTest _ _)
  · exact hs

theorem LoopGuard.sessionEvaluation (hs : LoopGuard s) (d : DeckId) : LoopGuard (s.sessionEvaluation d) := by
  unfold State.sessionEvaluation
  dsimp only
  split
  · next v _ =>
    cases v.stage with
    | boarding => exact keeps_ite (keeps_ite (hs.enterOnDeck d v) (hs.same rfl)) hs
    | onDeck => exact hs.captureTest d
    | leaving => exact keeps_ite (keeps_ite (hs.enterReleased d v) (hs.enterClearing d v)) hs
    | clearing => exact hs.clearingTest d v
    | called | released => exact hs
  · exact hs

theorem LoopGuard.cancel {d : DeckId} {v : Serving} (hs : LoopGuard s) (h : s.cancel d v = some t) : LoopGuard t := by
  have hundone := hs.undo v.slot
  unfold State.cancel at h
  split at h
  · cases h
    exact hundone.enterClearing d _
  · cases h
    exact (hundone.setPass _ false).same rfl
  · cases h
    exact hundone.enterReleased d _
  all_goals
    split at h
    · cases h
      exact hs.clearWaived d v
    · cases h

/-! ### Events of a gate (R93, R100) -/

/-- An event of a gate keeps the loop guard where the operation on its channel does. -/
theorem LoopGuard.gateEvent (hs : LoopGuard s) {g : GateId} {f : Gate → Gate}
    (hf : (s.gate g).guarded → (f (s.gate g)).guarded) :
    LoopGuard (s.gateEvent g f) := by
  have hset := hs.setGate g (hf (hs g))
  have hnoted (c : Prop) [Decidable c] : LoopGuard (if c then (s.setGate g (f (s.gate g))).raise .barrierFault (.gate g)
      else s.setGate g (f (s.gate g))) := keeps_ite (hset.same rfl) hset
  exact keeps_ite (hnoted _) ((hnoted _).sessionBarrier g)

theorem LoopGuard.unlockGate (hs : LoopGuard s) (g : GateId) : LoopGuard (s.unlockGate g) := by
  have hunlocked := hs.gateEvent (g := g) (f := fun x => x.unlock s.now) fun h => unlock_guarded h _
  exact keeps_ite (keeps_ite (hunlocked.offer _) hunlocked) hs

theorem LoopGuard.hostMove {f : Gate → Gate} (hs : LoopGuard s) (gate : Byte)
    (hf : ∀ g : Gate, g.guarded → (f g).guarded) :
    LoopGuard (s.hostMove gate f).1 := by
  unfold State.hostMove
  split
  · exact hs
  · split
    · exact hs
    · exact hs.gateEvent (hf _)

theorem LoopGuard.phaseLapse {f : Nat → Gate → Gate} (hs : LoopGuard s) (g : GateId) (p : Phase)
    (hf : ∀ now (k : Gate), k.guarded → (f now k).guarded) : LoopGuard (s.phaseLapse g p f) :=
  phaseLapse_keeps (fun _ _ h => h.same rfl) (fun _ n h => h.gateEvent (hf n _)) hs

/-! ### The cycles of a deck (R1, R6) -/

theorem writeEvaluation_gates (s : State) (d : DeckId) (r : CalRecord) (warming : Bool) (good : List Good) :
    (s.writeEvaluation d r warming good).gates = s.gates := by
  rw [writeEvaluation_eq]
  split <;> rfl

theorem LoopGuard.evaluate (hs : LoopGuard s) (d : DeckId) (warming : Bool) (good : List Good) :
    LoopGuard (s.evaluate d warming good) := by
  cases hr : (s.deck d).cal.record with
  | none => rwa [evaluate_uncalibrated hr]
  | some r =>
    have hsession := (hs.same (writeEvaluation_gates s d r warming good)).sessionEvaluation d
    rw [evaluate_eq hr]
    exact keeps_ite (hsession.offer d) hsession

theorem LoopGuard.pollNext (hs : LoopGuard s) (d : DeckId) (warming : Bool) (todo : List Nat) (good : List Good) :
    LoopGuard (s.pollNext d warming todo good) := by
  cases todo with
  | nil => exact LoopGuard.evaluate (s := s.setCells d _) (hs.same rfl) d warming good
  | cons i rest => exact hs.same rfl

theorem LoopGuard.takeSlot (hs : LoopGuard s) (d : DeckId) : LoopGuard (s.takeSlot d) :=
  keeps_ite (LoopGuard.pollNext (s := s.setCells d _) (hs.same rfl) d _ _ _) (hs.same rfl)

theorem LoopGuard.deckFault (hs : LoopGuard s) (d : DeckId) : LoopGuard (s.deckFault d) :=
  LoopGuard.refuseWaiting (s := s.setUnit d _) (hs.same rfl) d

theorem LoopGuard.missCell (hs : LoopGuard s) (d : DeckId) (i : Nat) : LoopGuard (s.missCell d i) := by
  unfold State.missCell
  dsimp only
  split
  · exact hs.same rfl
  · have hfailed : LoopGuard ((s.setCell d i ⟨3, true⟩).raise .deckFault (.cell d i)) := hs.same rfl
    split
    · exact hfailed.deckFault d
    · exact hfailed.deckFault d
    · exact hfailed

theorem LoopGuard.endExchange (hs : LoopGuard s) (d : DeckId) (c : Cycle) (g : Option Good) :
    LoopGuard (s.endExchange d c g) := by
  cases g with
  | none => exact (hs.missCell d c.awaiting).pollNext d _ _ _
  | some g => exact LoopGuard.pollNext (s := s.setCell d c.awaiting _) (hs.same rfl) d _ _ _

/-! ### The emergency, the loops and the readers (R98, R110, R138, R141) -/

theorem wakeYard_gates (s : State) (c : WakeCause) : (s.wakeYard c).gates = s.gates := by
  rw [wakeYard_eq]
  rfl

theorem wakeSource_gates (s : State) (c : WakeCause) : (s.wakeSource c).gates = s.gates := by
  unfold State.wakeSource
  split
  · exact wakeYard_gates s c
  · rfl

theorem LoopGuard.abortSession (hs : LoopGuard s) (d : DeckId) : LoopGuard (s.abortSession d) := by
  unfold State.abortSession
  split
  · next v _ =>
    cases v.stage with
    | called | boarding | onDeck => exact (hs.undo v.slot).vacate d
    | released | leaving | clearing => exact hs.vacate d
  · exact hs.vacate d

theorem LoopGuard.setLatch (hs : LoopGuard s) : LoopGuard s.setLatch := by
  have hset : LoopGuard { s with emergency := { s.emergency with latch := true } } := hs.same rfl
  have hraised := eachGate_keeps (f := fun s' g => s'.gateEvent g fun x => x.forcedRaise s'.now)
    (fun _ _ h => h.gateEvent fun _ => forcedRaise_guarded _ _) hset
  have hended := eachDeck_keeps (P := LoopGuard) (f := fun s d => (s.abortSession d).dropCalls d)
    (fun _ d h => ((h.abortSession d).dropWaiting _).dropWaiting _) hraised
  exact (hended.same (wakeSource_gates _ .emergency)).same rfl

theorem LoopGuard.releaseLatch (hs : LoopGuard s) : LoopGuard s.releaseLatch := by
  have hreleased : LoopGuard { s with emergency := { s.emergency with latch := false } } := hs.same rfl
  exact eachDeck_keeps (fun _ d h => h.offer d)
    (eachGate_keeps (fun _ _ h => h.gateEvent fun hg => releaseLower_guarded hg _) hreleased)

theorem LoopGuard.loopEvent (hs : LoopGuard s) (g : GateId) (occupied : Bool) : LoopGuard (s.loopEvent g occupied) := by
  have hchanged := hs.gateEvent (g := g) (f := fun x => x.loopChange s.now occupied) fun _ => loopChange_guarded _ _ _
  have hsession := hchanged.sessionLoop g occupied
  exact keeps_ite (hsession.same (wakeSource_gates _ _)) hsession

theorem LoopGuard.acceptedRead (hs : LoopGuard s) (g : GateId) (t : Tag) : LoopGuard (s.acceptedRead g t) :=
  keeps_ite (keeps_ite ((hs.same (wakeYard_gates s (.tag g))).arbitrateCall g _) hs) (hs.arbitrateCall g _)

/-- A read writes the repeat memory alone (R110). -/
theorem read_guarded {g : Gate} (h : g.guarded) (now : Nat) (t : Tag) : (g.read now t).1.guarded := by
  unfold Gate.read
  split
  · split <;> exact h
  · exact h

/-! ### The resets and the supply (R108, R182, R183) -/

/-- After a reset every barrier stands as its switches place it (R108). -/
theorem loopGuard_resetBlocks (s : State) (cause : ResetCause) (lost : Bool) (pins : Pins) :
    LoopGuard (s.resetBlocks cause lost pins) := by
  intro g
  cases g <;> exact reset_guarded _ _ _

theorem loopGuard_performReset (s : State) (cause : ResetCause) (lost : Bool) (pins : Pins) :
    LoopGuard (s.performReset cause lost pins) := by
  have hserved := (loopGuard_resetBlocks s cause lost pins).same (serveBus_records _).gates
  exact keeps_ite hserved.setLatch hserved

theorem LoopGuard.clearTables (hs : LoopGuard s) : LoopGuard s.clearTables :=
  eachDeck_keeps (P := LoopGuard) (fun _ d h => h.refuseWaiting d) (hs.same rfl)

end Sys2Proof.Machine
end

section
/-! PROOFS. The loop guard through every command and every step (R99): the commands that leave the gates, and those that
reach one. -/

namespace Sys2Proof.Machine

variable {s t : State}

/-! ### Commands that leave the gates -/

/-- The commands that may change a gate channel: the requests on gates, sessions and the latch, the events of gates,
cells and readers, the lapses that move a session or a call, and the resets. -/
def movesGates : Instr → Bool
  | .setGate _ _ _ _ | .raise _ | .lower _ | .resetGate _ | .lock _ | .unlock _ | .readGate _ _ | .call _ _ _ _ _ _
  | .manualCapture _ _ | .cancelSession _ | .emergencyRelease | .restart _ | .clearTables _ | .powerOn _ | .pinReset _
  | .cycleSlot _ | .cellAnswer _ _ | .answerWindowLapse _ | .warmUpLapse _ | .loopStateChange _ _
  | .limitSwitchChange _ _ _ | .warnTimeLapse _ | .driveLimitLapse _ | .settleTimeLapse _ | .tagFrame _ _
  | .callWaitLapse _ | .boardTimerLapse _ | .emergencyInputChange _ | .mainSupplyLoss _ => true
  | _ => false

/-- `t` has the gates of `s`. -/
def SameGates (s t : State) : Prop := t.gates = s.gates

theorem sameGates_linkFree (s : State) : LinkFree (SameGates s) where
  link _ _ h := h
  port _ _ h := h

theorem request_sameGates {kind : Byte} {f : State → State × Reply} (hf : ∀ s, SameGates s (f s).1)
    (h : request kind f s = .next t) : SameGates s t :=
  request_keeps (sameGates_linkFree s) (fun _ _ hs => (hf _).trans hs) rfl h

theorem event_sameGates {f : State → State} (hf : ∀ s, SameGates s (f s)) (h : event f s = .next t) : SameGates s t :=
  event_keeps (P := SameGates s) (fun _ _ hs => (hf _).trans hs) rfl h

/-- A visit request whose own part touches no more than records leaves the gates. -/
theorem visitRequest_sameGates {kind slot : Byte} {expected : Option Revision} {own : State → Nat → State × Reply}
    (hf : ∀ s n, SameGates s (own s n).1) (h : request kind (fun s => s.visitRequest slot expected (own s)) s = .next t) :
    SameGates s t :=
  request_sameGates (fun s => visitRequest_keeps (P := SameGates s) (hf s) rfl) h

theorem accountRequest_sameGates {kind : Byte} {number : AccountNo} {own : State → Account → State × Reply}
    (hf : ∀ s a, SameGates s (own s a).1) (h : request kind (fun s => s.withAccount number (own s)) s = .next t) :
    SameGates s t :=
  request_sameGates (fun s => withAccount_keeps (P := SameGates s) (hf s) rfl) h

/-- A lapse of the job's timer leaves the gates where what it does to the job does. -/
theorem jobLapse_sameGates {due : JobPhase → Option Nat} {f : State → Job → State} (hf : ∀ s j, SameGates s (f s j))
    (h : event (fun s => s.jobLapse due f) s = .next t) : SameGates s t :=
  event_sameGates (fun s => jobLapse_keeps (P := SameGates s) (fun _ _ h => h) (fun _ _ h => (hf _ _).trans h) rfl) h

/-- The over-stay check after a change of the Service Unit leaves the gates (R63). -/
theorem checkStays_setService_sameGates (s : State) (v : Service) : SameGates s (s.setService v).checkStays :=
  (checkStays_records (s.setService v)).gates

theorem execResolveClose_sameGates {slot action target : Byte} {e : Option Revision} {net : Option (BitVec 32)}
    (h : execResolveClose slot e action target net s = .next t) : SameGates s t := by
  refine visitRequest_sameGates (fun s n => ?_) h
  split
  · split
    · split
      · exact (resolveClose_records _ _ _ _ _ _ _).gates
      · split <;> rfl
    · rfl
  · rfl

theorem execAmend_sameGates {slot : Byte} {e : Option Revision} {k : Option Byte} {p : Option (List Byte)}
    {a : Option AccountNo} (h : execAmend slot e k p a s = .next t) : SameGates s t := by
  refine visitRequest_sameGates (fun s n => ?_) h
  split
  · split
    · exact (amend_records _ _ _ _ _ _).gates
    · rfl
  · rfl

theorem execCancelVisit_sameGates {slot : Byte} {e : Option Revision} (h : execCancelVisit slot e s = .next t) :
    SameGates s t := by
  refine visitRequest_sameGates (fun s n => ?_) h
  split
  · split
    · exact (countDown_records _ _).gates
    · rfl
  · rfl

theorem execRedirect_sameGates {slot target : Byte} {e : Option Revision} (h : execRedirect slot e target s = .next t) :
    SameGates s t := by
  refine visitRequest_sameGates (fun s n => ?_) h
  split
  · split
    · split
      · rfl
      · split
        · rfl
        · exact (doneAndServe_records _ _ _).gates
    · rfl
  · rfl

theorem execReprint_sameGates {slot : Byte} {e : Option Revision} (h : execReprint slot e s = .next t) :
    SameGates s t := by
  refine visitRequest_sameGates (fun s n => ?_) h
  split
  · split
    · iterate 2
        split
        · rfl
      split
      · exact (doneAndServe_records _ _ _).gates
      · rfl
    · rfl
  · rfl

theorem execReleasePrinter_sameGates {printer : Byte} (h : execReleasePrinter printer s = .next t) : SameGates s t := by
  refine request_sameGates (fun s => ?_) h
  split
  · rfl
  · split
    · split <;> rfl
    · exact (returnPrinter_records _ _).gates
    · rfl

theorem execResumePrinter_sameGates {printer : Byte} (h : execResumePrinter printer s = .next t) : SameGates s t := by
  refine request_sameGates (fun s => ?_) h
  split
  · rfl
  · split
    · exact (returnPrinter_records _ _).gates
    · rfl

theorem execSetClock_sameGates {seconds : Seconds} (h : execSetClock seconds s = .next t) : SameGates s t := by
  refine request_sameGates (fun s => ?_) h
  dsimp only
  exact checkStays_setService_sameGates _ _

theorem execSetSite_sameGates {maxStay tagWake loopWake : Byte} (h : execSetSite maxStay tagWake loopWake s = .next t) :
    SameGates s t := by
  refine request_sameGates (fun s => ?_) h
  dsimp only
  split
  · dsimp only
    exact checkStays_setService_sameGates _ _
  · rfl

theorem execQuiet_sameGates (h : execQuiet s = .next t) : SameGates s t := by
  refine request_sameGates (fun s => ?_) h
  rw [eachDeck_replace (fun _ k => k.asleep) enterAsleep_eq]
  split
  · rfl
  · split <;> rfl

theorem execWake_sameGates (h : execWake s = .next t) : SameGates s t := by
  refine request_sameGates (fun s => ?_) h
  split
  · exact wakeYard_gates _ _
  · rfl

theorem execCaptureTimerLapse_sameGates {d : DeckId} (h : execCaptureTimerLapse d s = .next t) : SameGates s t := by
  refine event_sameGates (fun s => ?_) h
  split
  · split <;> rfl
  · rfl

theorem execYardClockAdvance_sameGates (h : execYardClockAdvance s = .next t) : SameGates s t := by
  obtain rfl := Host.Outcome.next.inj h
  have hticked : SameGates s s.tickClock := rfl
  have hchecked : SameGates s s.tickClock.checkStays := (checkStays_records s.tickClock).gates
  exact keeps_ite hchecked (keeps_ite hticked rfl)

theorem execSetupTimeLapse_sameGates (h : execSetupTimeLapse s = .next t) : SameGates s t := by
  refine jobLapse_sameGates (fun s j => ?_) h
  rfl

theorem execPbusyChange_sameGates {p : PrinterId} {active : Bool} (h : execPbusyChange p active s = .next t) :
    SameGates s t := by
  refine event_sameGates (fun s => ?_) h
  dsimp only
  split
  · rfl
  · split
    · split
      · split <;> rfl
      · rfl
    · rfl

theorem execPfltChange_sameGates {p : PrinterId} {active : Bool} (h : execPfltChange p active s = .next t) :
    SameGates s t := by
  refine event_sameGates (fun s => ?_) h
  dsimp only
  split
  · rfl
  · split
    · split
      · exact (faultJob_records _ _ _).gates
      · rfl
    · rfl

theorem execPdoneChange_sameGates {p : PrinterId} {active : Bool} (h : execPdoneChange p active s = .next t) :
    SameGates s t := by
  refine event_sameGates (fun s => ?_) h
  dsimp only
  split
  · rfl
  · split
    · split
      · split
        · exact (finishJob_records _ _).gates
        · rfl
      · rfl
    · rfl

/-- Every command but those of `movesGates` leaves the gates. -/
theorem exec_sameGates {c : Instr} (hc : movesGates c = false) (h : exec c s = .next t) : SameGates s t := by
  cases c with
  | readDeck | calGet | find | getVehicle | getAccount | getKind | readSession | readPrinters | readNotices | status
  | malformedFrame | cutShortFrame => exact query_keeps (sameGates_linkFree s) rfl h
  -- Every outcome of these leaves the gates as they stand: the split names the outcomes.
  | retryCell | seek | setTicketNext | putVehicle | dropVehicle | putKind | setDeckTimers | setPrint | holdPrinter
  | takeNotice | dropNotices | setNotice =>
    refine request_sameGates (fun s => ?_) h
    repeat' split
    all_goals rfl
  | calPut | zero | walk | setTareFromDeck | putAccount =>
    refine request_sameGates (fun s => ?_) h
    dsimp only [State.calibrate]
    repeat' split
    all_goals rfl
  | resolveDiscard | collect =>
    refine visitRequest_sameGates (fun s n => ?_) h
    repeat' split
    all_goals rfl
  | credit =>
    refine accountRequest_sameGates (fun s a => ?_) h
    exact keeps_ite (P := SameGates s) rfl rfl
  | stop | release | dropAccount =>
    refine accountRequest_sameGates (fun s a => ?_) h
    repeat' split
    all_goals rfl
  | amend => exact execAmend_sameGates h
  | cancelVisit => exact execCancelVisit_sameGates h
  | resolveClose => exact execResolveClose_sameGates h
  | redirect => exact execRedirect_sameGates h
  | reprint => exact execReprint_sameGates h
  | releasePrinter => exact execReleasePrinter_sameGates h
  | resumePrinter => exact execResumePrinter_sameGates h
  | setClock => exact execSetClock_sameGates h
  | setSite => exact execSetSite_sameGates h
  | quiet => exact execQuiet_sameGates h
  | wake => exact execWake_sameGates h
  | overrun | answerRead =>
    exact selection_keeps (sameGates_linkFree s) (fun s _ hs => (sameGates_linkFree _).link s _ hs) rfl h
  | captureTimerLapse => exact execCaptureTimerLapse_sameGates h
  | yardClockAdvance => exact execYardClockAdvance_sameGates h
  | setupTimeLapse => exact execSetupTimeLapse_sameGates h
  | strobeTimeLapse => exact jobLapse_sameGates (fun _ _ => (strobeEnd_records _ _).gates) h
  | holdTimeLapse => exact jobLapse_sameGates (fun _ _ => (byteEnd_records _ _).gates) h
  | busyWaitLapse | completionLimitLapse => exact jobLapse_sameGates (fun _ _ => (faultJob_records _ _ _).gates) h
  | pbusyChange => exact execPbusyChange_sameGates h
  | pfltChange => exact execPfltChange_sameGates h
  | pdoneChange => exact execPdoneChange_sameGates h
  | _ => cases hc

/-! ### Commands that reach a gate -/

theorem loopGuard_linkFree : LinkFree LoopGuard where
  link _ _ hs := hs.same rfl
  port _ _ hs := hs.same rfl

/-- A request keeps the loop guard where its performance does (R175). -/
theorem LoopGuard.request {kind : Byte} {f : State → State × Reply} (hf : ∀ s, LoopGuard s → LoopGuard (f s).1)
    (hs : LoopGuard s) (h : request kind f s = .next t) : LoopGuard t :=
  request_keeps loopGuard_linkFree (fun s _ => hf s) hs h

/-- An event keeps the loop guard where its own work does (log 5). -/
theorem LoopGuard.event {f : State → State} (hf : ∀ s, LoopGuard s → LoopGuard (f s)) (hs : LoopGuard s)
    (h : event f s = .next t) : LoopGuard t :=
  event_keeps (fun s _ => hf s) hs h

theorem LoopGuard.execResetGate {gate : Byte} (hs : LoopGuard s) (h : execResetGate gate s = .next t) : LoopGuard t := by
  refine LoopGuard.request (fun s hs => ?_) hs h
  split
  · exact hs
  · split
    · exact hs
    · split
      · exact hs
      · exact hs.gateEvent (f := fun x => x.restore s.now s.emergency.latch) fun _ => restore_guarded _ _ _

/-- The settings, the lock and the drop count of a gate are not its barrier's. -/
theorem LoopGuard.execSetGate {gate warn drive settle : Byte} (hs : LoopGuard s)
    (h : execSetGate gate warn drive settle s = .next t) : LoopGuard t := by
  refine LoopGuard.request (fun s hs => ?_) hs h
  split
  · exact hs
  · exact hs.setGate _ (hs _)

theorem LoopGuard.execLock {gate : Byte} (hs : LoopGuard s) (h : execLock gate s = .next t) : LoopGuard t := by
  refine LoopGuard.request (fun s hs => ?_) hs h
  split
  · exact hs
  · exact hs.setGate _ (hs _)

theorem LoopGuard.execReadGate {gate clear : Byte} (hs : LoopGuard s) (h : execReadGate gate clear s = .next t) :
    LoopGuard t := by
  refine LoopGuard.request (fun s hs => ?_) hs h
  split
  · exact keeps_ite (hs.setGate _ (hs _)) hs
  · exact hs

theorem LoopGuard.execUnlock {gate : Byte} (hs : LoopGuard s) (h : execUnlock gate s = .next t) : LoopGuard t := by
  refine LoopGuard.request (fun s hs => ?_) hs h
  split
  · exact hs
  · exact hs.unlockGate _

theorem LoopGuard.execCall {gate form : Byte} {key : List Byte} {account : AccountNo} {kind direction : Byte}
    (hs : LoopGuard s) (h : execCall gate form key account kind direction s = .next t) : LoopGuard t := by
  refine LoopGuard.request (fun s hs => ?_) hs h
  split
  · exact hs
  · split
    · exact hs
    · split
      · exact hs
      · exact hs.arbitrateCall _ _

theorem LoopGuard.execManualCapture {deck : Byte} {weight : BitVec 32} (hs : LoopGuard s)
    (h : execManualCapture deck weight s = .next t) : LoopGuard t := by
  refine LoopGuard.request (fun s hs => ?_) hs h
  split
  · exact hs
  · split
    · exact hs
    · iterate 2
        split
        · exact hs
      exact hs.captureInto _ _ _

theorem LoopGuard.execCancelSession {deck : Byte} (hs : LoopGuard s) (h : execCancelSession deck s = .next t) :
    LoopGuard t := by
  refine LoopGuard.request (fun s hs => ?_) hs h
  split
  · exact hs
  · split
    · exact hs
    · split
      · next hcancel => exact hs.cancel hcancel
      · exact hs

theorem LoopGuard.execEmergencyRelease (hs : LoopGuard s) (h : execEmergencyRelease s = .next t) : LoopGuard t := by
  refine LoopGuard.request (fun s hs => ?_) hs h
  split
  · exact hs
  · split
    · exact hs
    · exact hs.releaseLatch

theorem LoopGuard.execClearTables {closed : Bool} (hs : LoopGuard s) (h : execClearTables closed s = .next t) :
    LoopGuard t := by
  refine LoopGuard.request (fun s hs => ?_) hs h
  split
  · exact hs
  · split
    · exact hs
    · exact hs.clearTables

theorem LoopGuard.execRestart {pins : Pins} (hs : LoopGuard s) (h : execRestart pins s = .next t) : LoopGuard t := by
  refine selection_keeps loopGuard_linkFree (fun s _ hs => ?_) hs h
  split
  · exact hs.same rfl
  · exact loopGuard_performReset _ _ _ _

theorem loopGuard_execPowerOn {pins : Pins} (h : execPowerOn pins s = .next t) : LoopGuard t := by
  obtain rfl := Host.Outcome.next.inj h
  exact keeps_ite (loopGuard_performReset _ _ _ _) (loopGuard_performReset _ _ _ _)

/-- Without supply every barrier counts as FAULT (log 5). -/
theorem loopGuard_execMainSupplyLoss {fails : Bool} (h : execMainSupplyLoss fails s = .next t) : LoopGuard t := by
  obtain rfl := Host.Outcome.next.inj h
  intro g
  cases g <;> trivial

theorem LoopGuard.execCycleSlot {d : DeckId} (hs : LoopGuard s) (h : execCycleSlot d s = .next t) : LoopGuard t := by
  refine LoopGuard.event (fun s hs => ?_) hs h
  have hpassed : LoopGuard (s.slotPassed d) := hs.same rfl
  exact keeps_ite (hpassed.takeSlot d) hpassed

theorem LoopGuard.execCellAnswer {d : DeckId} {f : List Byte} (hs : LoopGuard s) (h : execCellAnswer d f s = .next t) :
    LoopGuard t := by
  refine LoopGuard.event (fun s hs => ?_) hs h
  split
  · exact hs.endExchange _ _ _
  · exact hs

theorem LoopGuard.execAnswerWindowLapse {d : DeckId} (hs : LoopGuard s) (h : execAnswerWindowLapse d s = .next t) :
    LoopGuard t := by
  refine LoopGuard.event (fun s hs => ?_) hs h
  split
  · exact LoopGuard.endExchange (s := s.reach _) (hs.same rfl) d _ _
  · exact hs

theorem LoopGuard.execWarmUpLapse {d : DeckId} (hs : LoopGuard s) (h : execWarmUpLapse d s = .next t) : LoopGuard t := by
  refine LoopGuard.event (fun s hs => ?_) hs h
  have hwarm (due : Nat) (k : Deck) : LoopGuard ((s.reach due).setDeck d k) := hs.same rfl
  split
  · exact hs
  · dsimp only
    split
    · exact keeps_ite ((hwarm _ _).deckFault d) (hwarm _ _)
    · exact hwarm _ _

theorem LoopGuard.execLoopStateChange {g : GateId} {occupied : Bool} (hs : LoopGuard s)
    (h : execLoopStateChange g occupied s = .next t) : LoopGuard t :=
  LoopGuard.event (fun _ hs => keeps_ite hs (hs.loopEvent g occupied)) hs h

theorem LoopGuard.execLimitSwitchChange {g : GateId} {w : LimitSwitch} {active : Bool} (hs : LoopGuard s)
    (h : execLimitSwitchChange g w active s = .next t) : LoopGuard t :=
  LoopGuard.event (fun _ hs => keeps_ite hs (hs.gateEvent fun hg => switchChange_guarded hg _ w active)) hs h

theorem LoopGuard.execWarnTimeLapse {g : GateId} (hs : LoopGuard s) (h : execWarnTimeLapse g s = .next t) :
    LoopGuard t :=
  LoopGuard.event (fun _ hs => hs.phaseLapse g .warn fun now _ hk => warnLapse_guarded hk now) hs h

theorem LoopGuard.execDriveLimitLapse {g : GateId} (hs : LoopGuard s) (h : execDriveLimitLapse g s = .next t) :
    LoopGuard t :=
  LoopGuard.event (fun _ hs => hs.phaseLapse g .drive fun _ _ hk => driveLapse_guarded hk) hs h

theorem LoopGuard.execSettleTimeLapse {g : GateId} (hs : LoopGuard s) (h : execSettleTimeLapse g s = .next t) :
    LoopGuard t :=
  LoopGuard.event (fun _ hs => hs.phaseLapse g .settle fun now _ hk => settleLapse_guarded hk now) hs h

theorem LoopGuard.execTagFrame {g : GateId} {f : List Byte} (hs : LoopGuard s) (h : execTagFrame g f s = .next t) :
    LoopGuard t := by
  refine LoopGuard.event (fun s hs => ?_) hs h
  split
  · exact hs.setGate g (hs g)
  · next tag _ =>
    have hread := hs.setGate g (read_guarded (hs g) s.now tag)
    exact keeps_ite (hread.acceptedRead g tag) hread

theorem LoopGuard.execCallWaitLapse {g : GateId} (hs : LoopGuard s) (h : execCallWaitLapse g s = .next t) :
    LoopGuard t := by
  refine LoopGuard.event (fun s hs => ?_) hs h
  split
  · exact (LoopGuard.dropWaiting (s := s.reach _) (hs.same rfl) g).same rfl
  · exact hs

theorem LoopGuard.execBoardTimerLapse {d : DeckId} (hs : LoopGuard s) (h : execBoardTimerLapse d s = .next t) :
    LoopGuard t := by
  refine LoopGuard.event (fun s hs => ?_) hs h
  split
  · next v _ =>
    split
    · next due _ _ => exact (LoopGuard.undo (s := s.reach due) (hs.same rfl) v.slot).enterClearing d _
    · exact hs
  · exact hs

theorem LoopGuard.execEmergencyInputChange {active : Bool} (hs : LoopGuard s)
    (h : execEmergencyInputChange active s = .next t) : LoopGuard t := by
  refine LoopGuard.event (fun s hs => ?_) hs h
  have hinput : LoopGuard { s with emergency := { s.emergency with input := active } } := hs.same rfl
  exact keeps_ite hs (keeps_ite hinput.setLatch hinput)

/-! ### Every command, every step -/

/-- Every command keeps the loop guard (R99). -/
theorem LoopGuard.exec {c : Instr} (hs : LoopGuard s) (h : exec c s = .next t) : LoopGuard t := by
  cases hmoves : movesGates c with
  | false => exact hs.same (exec_sameGates hmoves h)
  | true =>
    cases c with
    | setGate => exact hs.execSetGate h
    | raise => exact LoopGuard.request (fun _ hs => hs.hostMove _ fun _ hg => raiseRequest_guarded hg _ _) hs h
    | lower => exact LoopGuard.request (fun _ hs => hs.hostMove _ fun _ hg => lowerRequest_guarded hg _ _) hs h
    | resetGate => exact hs.execResetGate h
    | lock => exact hs.execLock h
    | unlock => exact hs.execUnlock h
    | readGate => exact hs.execReadGate h
    | call => exact hs.execCall h
    | manualCapture => exact hs.execManualCapture h
    | cancelSession => exact hs.execCancelSession h
    | emergencyRelease => exact hs.execEmergencyRelease h
    | restart => exact hs.execRestart h
    | clearTables => exact hs.execClearTables h
    | powerOn => exact loopGuard_execPowerOn h
    | pinReset => exact LoopGuard.event (fun _ _ => loopGuard_performReset _ _ _ _) hs h
    | cycleSlot => exact hs.execCycleSlot h
    | cellAnswer => exact hs.execCellAnswer h
    | answerWindowLapse => exact hs.execAnswerWindowLapse h
    | warmUpLapse => exact hs.execWarmUpLapse h
    | loopStateChange => exact hs.execLoopStateChange h
    | limitSwitchChange => exact hs.execLimitSwitchChange h
    | warnTimeLapse => exact hs.execWarnTimeLapse h
    | driveLimitLapse => exact hs.execDriveLimitLapse h
    | settleTimeLapse => exact hs.execSettleTimeLapse h
    | tagFrame => exact hs.execTagFrame h
    | callWaitLapse => exact hs.execCallWaitLapse h
    | boardTimerLapse => exact hs.execBoardTimerLapse h
    | emergencyInputChange => exact hs.execEmergencyInputChange h
    | mainSupplyLoss => exact loopGuard_execMainSupplyLoss h
    | _ => cases hmoves

/-- Settles O54: every command keeps the loop guard at every gate, since a lowering only begins over a CLEAR loop and the
guard abandons it when the loop becomes OCCUPIED. -/
theorem stepKeepsTheLoopGuard : Obligations.StepKeepsTheLoopGuard := by
  intro s t hs h
  exact step_keeps (P := LoopGuard) (fun _ _ hs => hs.same rfl) (fun _ _ hs => hs.same rfl)
    (fun _ _ _ hs h => hs.exec h) hs h

end Sys2Proof.Machine
end

section
/-! PROOFS. What the reads of the blocks answer (R92, R103, R111, R133, R164, R172, R178), and the settings requests (R91,
R132, R151). -/

namespace Sys2Proof.Machine

/-! ### The outputs of a gate channel (R92, R103) -/

theorem green_iff (g : Gate) : g.green = true ↔ (g.barrier = .up ∧ g.pass = true) ∨ g.barrier = .forced := by
  unfold Gate.green
  cases g.barrier <;> simp

theorem motorUp_iff (g : Gate) : g.motorUp = true ↔ ∃ o due f, g.barrier = .raising .drive o due f := by
  unfold Gate.motorUp
  cases g.barrier with
  | raising p o due f => cases p <;> simp
  | down | up | forced | fault | lowering => simp

theorem motorDown_iff (g : Gate) : g.motorDown = true ↔ ∃ o due, g.barrier = .lowering .drive o due := by
  unfold Gate.motorDown
  cases g.barrier with
  | lowering p o due => cases p <;> simp
  | down | up | forced | fault | raising => simp

/-- The beacon is on in the WARN and the DRIVE of a motion (R92). -/
theorem beacon_iff (g : Gate) : g.beacon = true ↔ (∃ p o due f, g.barrier = .raising p o due f ∧ p ≠ .settle) ∨
    ∃ p o due, g.barrier = .lowering p o due ∧ p ≠ .settle := by
  unfold Gate.beacon
  cases g.barrier with
  | raising p o due f => cases p <;> simp
  | lowering p o due => cases p <;> simp
  | down | up | forced | fault => simp

/-- Settles O36: each output by the barrier's state; the two motors by the direction of the motion. -/
theorem outputsFollowTheBarrier : Obligations.OutputsFollowTheBarrier := by
  intro g
  refine ⟨green_iff g, motorUp_iff g, motorDown_iff g, beacon_iff g, ?_⟩
  rintro ⟨hup, hdown⟩
  obtain ⟨o, due, f, hraising⟩ := (motorUp_iff g).1 hup
  obtain ⟨o', due', hlowering⟩ := (motorDown_iff g).1 hdown
  cases hraising.symm.trans hlowering

/-! ### The reads (R111, R133, R164, R172, R178) -/

section Reads

variable {s : State}

/-- READ_GATE by its two codes (R111; log 20). -/
theorem exec_readGate (h : s.listening) (b clear : Byte) : exec (.readGate b clear) s = .next (
    match gateOf b, flagOf clear with
    | some g, some c => (if c then s.setGate g { s.gate g with drops := 0 } else s).answered Code.readGate .done
        (.gate (s.gate g).image)
    | _, _ => s.answered Code.readGate .outOfRange) := by
  change request Code.readGate _ s = _
  rw [request_performed _ _ s h]
  cases gateOf b with
  | none => rfl
  | some g => cases flagOf clear <;> rfl

/-- READ_SESSION by its deck code (R133). -/
theorem exec_readSession (h : s.listening) (b : Byte) : exec (.readSession b) s = .next (
    match deckOf b with
    | none => s.answered Code.readSession .outOfRange
    | some d => s.answered Code.readSession .done (.session (s.sessionImage d))) := by
  change query Code.readSession _ s = _
  rw [query_performed _ _ s h]
  cases deckOf b <;> rfl

end Reads

/-- Settles O7: each read by its codes, and the fields of its image. -/
theorem blockReads : Obligations.BlockReads := by
  intro s h
  refine ⟨fun b clear => ?_, exec_readSession h, ?_, ?_, ?_⟩
  · have hgreen (k : Gate) : k.green = decide (k.barrier = .up ∧ k.pass = true ∨ k.barrier = .forced) := by
      rw [Bool.eq_iff_iff, green_iff, decide_eq_true_iff]
    simp only [exec_readGate h, Gate.image, hgreen] <;> rfl
  · exact query_done (f := fun s => .done (.printers s.printersImage)) h rfl
  · exact query_done (f := fun s => .done (.notices s.notices s.attn s.alert)) h rfl
  · exact query_done (f := fun s => .done (.status s.statusImage)) h rfl

/-! ### Clamped settings (R91, R132, R151) -/

theorem clamp_eq {lo hi : Nat} (h : lo ≤ hi) (v : Nat) :
    clamp lo hi v = if v < lo then lo else if hi < v then hi else v := by
  unfold clamp
  split_ifs <;> omega

theorem clamped_eq {lo hi : Nat} (h : lo ≤ hi) (v : Nat) : clamped lo hi v = decide (v < lo ∨ hi < v) := by
  rw [Bool.eq_iff_iff, decide_eq_true_iff, clamped, bne_iff_ne, clamp]
  omega

section Settings

variable {s : State}

/-- SET_GATE by its gate code (R91). -/
theorem exec_setGate (h : s.listening) (b w d t : Byte) : exec (.setGate b w d t) s = .next (
    match gateOf b with
    | none => s.answered Code.setGate .outOfRange
    | some g =>
      (s.setGate g { s.gate g with warnTime := clamp 0 20 w.toNat, driveLimit := clamp 1 30 d.toNat
                                   settleTime := clamp 0 10 t.toNat }).answered Code.setGate .done
        (.gateTimes (clamp 0 20 w.toNat) (clamp 1 30 d.toNat) (clamp 0 10 t.toNat))
        (clamped 0 20 w.toNat || clamped 1 30 d.toNat || clamped 0 10 t.toNat)) := by
  change request Code.setGate _ s = _
  rw [request_performed _ _ s h]
  cases gateOf b <;> rfl

/-- SET_DECK_TIMERS by its deck code (R132). -/
theorem exec_setDeckTimers (h : s.listening) (b : Byte) (x c w : BitVec 16) : exec (.setDeckTimers b x c w) s = .next (
    match deckOf b with
    | none => s.answered Code.setDeckTimers .outOfRange
    | some d =>
      let times : DeckTimes := ⟨clamp 10 300 x.toNat, clamp 10 600 c.toNat, clamp 5 300 w.toNat⟩
      (s.setDeck d { s.deck d with times := times }).answered Code.setDeckTimers .done (.deckTimes times)
        (clamped 10 300 x.toNat || clamped 10 600 c.toNat || clamped 5 300 w.toNat)) := by
  change request Code.setDeckTimers _ s = _
  rw [request_performed _ _ s h]
  cases deckOf b <;> rfl

/-- SET_PRINT (R151). -/
theorem exec_setPrint (h : s.listening) (u b l c : Byte) : exec (.setPrint u b l c) s = .next (
    let times : PrintTimes := ⟨clamp 1 8 u.toNat, clamp 1 16 b.toNat, clamp 0 8 l.toNat, clamp 5 60 c.toNat⟩
    State.answered { s with printing := { s.printing with times := times } } Code.setPrint .done (.printTimes times)
      (clamped 1 8 u.toNat || clamped 1 16 b.toNat || clamped 0 8 l.toNat || clamped 5 60 c.toNat)) := by
  change request Code.setPrint _ s = _
  rw [request_performed _ _ s h]
  rfl

end Settings

/-- Settles O27: each request's settings by `clamp_eq`, and the adjusted mark by `clamped_eq`. -/
theorem settingsAreClamped : Obligations.SettingsAreClamped := by
  intro s h inside
  have hclamp {lo hi : Nat} (hle : lo ≤ hi) : clamp lo hi = inside lo hi := funext (clamp_eq hle)
  refine ⟨fun b w d t => ?_, fun b x c w => ?_, fun u b l c => ?_⟩
  · have hmark : (clamped 0 20 w.toNat || clamped 1 30 d.toNat || clamped 0 10 t.toNat) =
        decide (20 < w.toNat ∨ d.toNat < 1 ∨ 30 < d.toNat ∨ 10 < t.toNat) := by
      simp [clamped_eq, Bool.or_assoc]
    rw [exec_setGate h, hmark, hclamp (by decide), hclamp (by decide), hclamp (by decide)] <;> rfl
  · have hmark : (clamped 10 300 x.toNat || clamped 10 600 c.toNat || clamped 5 300 w.toNat) = decide (x.toNat < 10 ∨
        300 < x.toNat ∨ c.toNat < 10 ∨ 600 < c.toNat ∨ w.toNat < 5 ∨ 300 < w.toNat) := by
      simp [clamped_eq, Bool.or_assoc]
    rw [exec_setDeckTimers h, hmark, hclamp (by decide), hclamp (by decide), hclamp (by decide)] <;> rfl
  · have hmark : (clamped 1 8 u.toNat || clamped 1 16 b.toNat || clamped 0 8 l.toNat || clamped 5 60 c.toNat) =
        decide (u.toNat < 1 ∨ 8 < u.toNat ∨ b.toNat < 1 ∨ 16 < b.toNat ∨ 8 < l.toNat ∨ c.toNat < 5 ∨ 60 < c.toNat) := by
      simp [clamped_eq, Bool.or_assoc]
    rw [exec_setPrint h, hmark, hclamp (by decide), hclamp (by decide), hclamp (by decide), hclamp (by decide)]

end Sys2Proof.Machine
end

section
/-! PROOFS. The motions of a barrier (R93 to R97): the barrier that each motion begins in, and what the requests do. -/

namespace Sys2Proof.Machine

/-! ### The barrier of a motion that begins (R93, R105) -/

/-- The barrier of a raising DRIVE that begins, where no pending request acts at UP: it ends at once with the up switch
ACTIVE (R93, R105). -/
def Gate.raisingDrive (g : Gate) (now : Nat) (o : Origin) (forced : Bool) : Barrier :=
  if g.upSwitch = false then .raising .drive o (now + g.driveLimit * 1000000) forced
  else if forced = true then .forced
  else if g.settleTime ≠ 0 then .raising .settle o (now + g.settleTime * 500000) false
  else .up

/-- The barrier of a raising that begins, with no request pending (R93). -/
def Gate.raisingStart (g : Gate) (now : Nat) (o : Origin) : Barrier :=
  if g.warnTime ≠ 0 then .raising .warn o (now + g.warnTime * 500000) false else g.raisingDrive now o false

/-- The barrier of a lowering that begins (R93). -/
def Gate.loweringStart (g : Gate) (now : Nat) (o : Origin) : Barrier :=
  if g.warnTime ≠ 0 then .lowering .warn o (now + g.warnTime * 500000)
  else if g.downSwitch = false then .lowering .drive o (now + g.driveLimit * 1000000)
  else if g.settleTime ≠ 0 then .lowering .settle o (now + g.settleTime * 500000)
  else .down

section Motions

variable (g : Gate) (now : Nat) (o : Origin)

theorem raisingDrive_ne (forced : Bool) :
    g.raisingDrive now o forced ≠ .fault ∧ g.raisingDrive now o forced ≠ .down := by
  unfold Gate.raisingDrive
  split_ifs <;> exact ⟨nofun, nofun⟩

theorem raisingStart_ne : g.raisingStart now o ≠ .fault ∧ g.raisingStart now o ≠ .down := by
  unfold Gate.raisingStart
  split
  · exact ⟨nofun, nofun⟩
  · exact raisingDrive_ne g now o false

theorem loweringStart_ne_fault : g.loweringStart now o ≠ .fault := by
  unfold Gate.loweringStart
  split_ifs <;> exact nofun

theorem lowerSettle_eq : g.lowerSettle now o =
    if g.settleTime ≠ 0 then { g with barrier := .lowering .settle o (now + g.settleTime * 500000) }
    else { g with barrier := .down, request := none } := by
  rw [ite_not]
  rfl

theorem lowerDrive_eq : g.lowerDrive now o =
    if g.downSwitch = false then { g with barrier := .lowering .drive o (now + g.driveLimit * 1000000) }
    else if g.settleTime ≠ 0 then { g with barrier := .lowering .settle o (now + g.settleTime * 500000) }
    else { g with barrier := .down, request := none } := by
  rw [Gate.lowerDrive, lowerSettle_eq]
  cases g.downSwitch <;> rfl

/-- A lowering that begins with no request pending writes the barrier alone. -/
theorem beginLower_eq : { g with request := none }.beginLower now o =
    { g with request := none, barrier := g.loweringStart now o } := by
  unfold Gate.beginLower Gate.loweringStart
  rw [lowerDrive_eq]
  dsimp only
  by_cases hw : g.warnTime = 0
  · rw [if_pos hw, if_neg (not_not.2 hw)]
    split_ifs <;> rfl
  · rw [if_neg hw, if_pos hw]
    rfl

/-! ### Arrival at UP (R97) -/

theorem lowerRequest_up : { g with barrier := .up }.lowerRequest now o =
    if g.occupied = true then { g with barrier := .up, request := some ⟨.lower, o⟩ }
    else { g with request := none, barrier := g.loweringStart now o } := by
  unfold Gate.lowerRequest
  dsimp only
  rw [beginLower_eq { g with barrier := .up } now o]
  rfl

variable {g now o}

/-- A LOWER that is pending at UP acts as one that arrives there (R95, R97). -/
theorem restUp_lower (h : g.request = some ⟨.lower, o⟩) :
    g.restUp now = { g with barrier := .up }.lowerRequest now o := by
  rw [lowerRequest_up, Gate.restUp, h]
  dsimp only
  rw [beginLower_eq]

/-- Without a LOWER, or over an OCCUPIED loop, a barrier at UP stays there (R97). -/
theorem restUp_stays (h : g.occupied = true ∨ ∀ p, g.request ≠ some ⟨.lower, p⟩) :
    g.restUp now = { g with barrier := .up } := by
  unfold Gate.restUp
  split
  · next p hp =>
    rw [if_pos (h.resolve_right fun hne => hne p hp)]
  · rfl

/-- Arrival at UP by the pending request (R97). -/
theorem restUp_eq (g : Gate) (now : Nat) : g.restUp now = match g.request with
    | some r => if r.kind = .lower ∧ g.occupied = false then
        { g with request := none, barrier := .up }.lowerRequest now r.origin else { g with barrier := .up }
    | none => { g with barrier := .up } := by
  unfold Gate.restUp
  split
  · next p hr =>
    simp only [hr, true_and]
    rw [beginLower_eq, lowerRequest_up { g with request := none } now p]
    cases g.occupied <;> rfl
  · next hr =>
    split
    · next r hr' =>
      rw [if_neg]
      rintro ⟨hlower, -⟩
      obtain ⟨kind, p⟩ := r
      exact hr p (hlower ▸ hr')
    · rfl

/-! ### Raising motions (R93, R105) -/

/-- A raising DRIVE that begins writes the barrier alone, unless it ends at once at UP with a LOWER to perform there. -/
theorem raiseDrive_eq {forced : Bool}
    (h : g.upSwitch = true → forced = false → g.settleTime = 0 → g.restUp now = { g with barrier := .up }) :
    g.raiseDrive now o forced = { g with barrier := g.raisingDrive now o forced } := by
  unfold Gate.raiseDrive Gate.reachUp Gate.raiseSettle Gate.raisingDrive
  by_cases hup : g.upSwitch = true
  · rw [if_pos hup, if_neg (ne_false_of_eq_true hup)]
    by_cases hf : forced = true
    · rw [if_pos hf, if_pos hf]
    · rw [if_neg hf, if_neg hf]
      by_cases hs : g.settleTime = 0
      · rw [if_pos hs, if_neg (not_not.2 hs)]
        exact h hup (Bool.eq_false_of_not_eq_true hf) hs
      · rw [if_neg hs, if_pos hs]
        rfl
  · rw [if_neg hup, if_pos (Bool.eq_false_of_not_eq_true hup)]
    rfl

/-- A raising that begins with no request pending writes the barrier alone. -/
theorem beginRaise_eq (h : g.request = none) :
    g.beginRaise now o = { g with barrier := g.raisingStart now o } := by
  have hrest : g.restUp now = { g with barrier := .up } := restUp_stays (Or.inr fun p => by rw [h]; exact nofun)
  unfold Gate.beginRaise Gate.raisingStart
  by_cases hw : g.warnTime = 0
  · rw [if_pos hw, if_neg (not_not.2 hw)]
    exact raiseDrive_eq fun _ _ _ => hrest
  · rw [if_neg hw, if_pos hw]
    rfl

/-! ### The requests (R94, R95) -/

theorem withoutLower_eq (r : Option MoveRequest) :
    withoutLower r = if (r.any fun q => q.kind == .lower) = true then none else r := by
  rcases r with _ | ⟨kind, p⟩
  · rfl
  · cases kind <;> rfl

theorem withoutRaise_eq (r : Option MoveRequest) :
    withoutRaise r = if (r.any fun q => q.kind == .raise) = true then none else r := by
  rcases r with _ | ⟨kind, p⟩
  · rfl
  · cases kind <;> rfl

/-- A raise request by the barrier's state (R94). -/
theorem raiseRequest_eq (g : Gate) (now : Nat) (o : Origin) : g.raiseRequest now o = match g.barrier with
    | .down => if o = .session ∧ g.locked = true then { g with request := some ⟨.raise, o⟩ }
        else { g with request := none, barrier := g.raisingStart now o }
    | .raising _ _ _ _ | .up => { g with request := withoutLower g.request }
    | .lowering _ _ _ => { g with request := none, barrier := g.raisingDrive now o false }
    | .forced => g
    | .fault => { g with request := some ⟨.raise, o⟩ } := by
  have hrest : { g with request := none }.restUp now = { g with request := none, barrier := .up } :=
    restUp_stays (Or.inr nofun)
  have hbegin : { g with request := none }.beginRaise now o =
      { g with request := none, barrier := g.raisingStart now o } :=
    beginRaise_eq rfl
  have hdrive : { g with request := none }.raiseDrive now o false =
      { g with request := none, barrier := g.raisingDrive now o false } := raiseDrive_eq fun _ _ _ => hrest
  unfold Gate.raiseRequest
  rw [hbegin, hdrive] <;> rfl

/-- A lower request by the barrier's state (R95, R105). -/
theorem lowerRequest_eq (g : Gate) (now : Nat) (o : Origin) : g.lowerRequest now o = match g.barrier with
    | .down => { g with request := withoutRaise g.request }
    | .raising _ _ _ forced => if forced = true then g else { g with request := some ⟨.lower, o⟩ }
    | .up => if g.occupied = true then { g with request := some ⟨.lower, o⟩ }
        else { g with request := none, barrier := g.loweringStart now o }
    | .lowering _ _ _ | .forced => g
    | .fault => { g with request := some ⟨.lower, o⟩ } := by
  unfold Gate.lowerRequest
  rw [beginLower_eq]
  cases g.barrier with
  | raising p q due forced => cases forced <;> rfl
  | down | up | lowering | forced | fault => rfl

/-- Settles O28: the requests by the barrier's state, with the motion each begins. -/
theorem requestsMoveTheBarrier : Obligations.RequestsMoveTheBarrier := by
  intro g now o raisingDrive raising lowering noLower noRaise
  rw [raiseRequest_eq, lowerRequest_eq, withoutLower_eq, withoutRaise_eq]
  exact ⟨rfl, rfl⟩

/-- A raise request puts no barrier into FAULT (R94). -/
theorem raiseRequest_fault (h : (g.raiseRequest now o).barrier = .fault) : g.barrier = .fault := by
  rw [raiseRequest_eq] at h
  split at h
  · split at h
    · exact h
    · exact absurd h (raisingStart_ne g now o).1
  · exact h
  · exact h
  · exact absurd h (raisingDrive_ne g now o false).1
  · exact h
  · exact h

/-- A lower request puts no barrier into FAULT (R95). -/
theorem lowerRequest_fault (h : (g.lowerRequest now o).barrier = .fault) : g.barrier = .fault := by
  rw [lowerRequest_eq] at h
  split at h
  case h_3 =>
    split at h
    · exact h
    · exact absurd h (loweringStart_ne_fault g now o)
  case h_2 => split at h <;> exact h
  all_goals exact h

end Motions

end Sys2Proof.Machine
end

section
/-! PROOFS. What follows a change of a gate channel (R93, R100, R124, R129). -/

namespace Sys2Proof.Machine

section Events

variable {s : State} {g : GateId}

/-! ### The session at a barrier (R124, R129) -/

/-- A barrier of a session's deck has changed its state: the capture test in ON_DECK, the completion in CLEARING at the
release gate (R124, R129). -/
theorem sessionBarrier_eq (s : State) (g : GateId) : s.sessionBarrier g = match (s.deck g.deck).session with
    | none => s
    | some v =>
      if v.stage = .onDeck ∧ s.capturable g.deck = true then s.captureInto g.deck v (s.deckWeighing g.deck)
      else if v.stage = .clearing ∧ g.deck.gate v.releaseEnd = g then s.clearingTest g.deck v
      else s := by
  unfold State.sessionBarrier State.captureTest
  cases hsession : (s.deck g.deck).session with
  | none => rfl
  | some v =>
    dsimp only
    cases hstage : v.stage with
    | onDeck => simp
    | clearing =>
      simp only [reduceCtorEq, false_and, if_false, true_and]
      rfl
    | called | boarding | released | leaving => simp

/-- A deck is capturable only with each of its barriers DOWN (R124). -/
theorem capturable_down (h : s.capturable g.deck = true) : (s.gate g).barrier = .down := by
  have hdown : s.barriersDown g.deck = true := by
    unfold State.capturable at h
    simp only [Bool.and_eq_true] at h
    exact h.1.2
  simp only [State.barriersDown, Bool.and_eq_true, beq_iff_eq] at hdown
  obtain ⟨hroad, hyard⟩ := hdown
  cases g
  · exact hroad
  · exact hyard
  · exact hroad
  · exact hyard

/-- A completion is tested with effect only at a release barrier that is DOWN (R129). -/
theorem clearingTest_raised {d : DeckId} {v : Serving} (h : (s.gate (v.releaseGate d)).barrier ≠ .down) :
    s.clearingTest d v = s := by
  simp [State.clearingTest, h]

/-- A barrier that is not DOWN moves no session (R124, R129). -/
theorem sessionBarrier_raised (h : (s.gate g).barrier ≠ .down) : s.sessionBarrier g = s := by
  rw [sessionBarrier_eq]
  split
  · rfl
  · next v _ =>
    rw [if_neg fun hcap => h (capturable_down hcap.2)]
    split
    · next hrelease =>
      have hgate : v.releaseGate g.deck = g := hrelease.2
      exact clearingTest_raised (by rw [hgate]; exact h)
    · rfl

/-! ### Events of a gate (R93, R100) -/

/-- An event of a gate only writes the channel where it puts no barrier into FAULT, and the barrier stays in its state
or is not DOWN after it. -/
theorem gateEvent_setGate {f : Gate → Gate} (hfault : (f (s.gate g)).barrier = .fault → (s.gate g).barrier = .fault)
    (hmove : (s.gate g).barrier.sameState (f (s.gate g)).barrier = true ∨ (f (s.gate g)).barrier ≠ .down) :
    s.gateEvent g f = s.setGate g (f (s.gate g)) := by
  have hgate : (s.setGate g (f (s.gate g))).gate g = f (s.gate g) := by rw [gate_setGate, if_pos rfl]
  have hquiet : ¬ ((f (s.gate g)).barrier = .fault ∧ (s.gate g).barrier ≠ .fault) := fun ⟨hafter, hbefore⟩ =>
    hbefore (hfault hafter)
  unfold State.gateEvent State.barrierMoved
  dsimp only
  rw [hgate, if_neg hquiet]
  split
  · rfl
  · next hmoved =>
    exact sessionBarrier_raised (by rw [hgate]; exact hmove.resolve_left hmoved)

/-- An event of a gate by the channel that it leaves. -/
theorem gateEvent_congr {f : Gate → Gate} {k : Gate} (h : f (s.gate g) = k) :
    s.gateEvent g f = s.gateEvent g fun _ => k :=
  h ▸ rfl

/-- The barrier state changes where the two barriers are not in the same state. -/
theorem changed_eq (a b : Barrier) : (match a, b with
    | .down, .down | .up, .up | .forced, .forced | .fault, .fault | .raising _ _ _ _, .raising _ _ _ _
    | .lowering _ _ _, .lowering _ _ _ => false
    | _, _ => true) = !a.sameState b := by
  cases a <;> cases b <;> rfl

/-- Settles O30: BARRIER_FAULT by the barrier before and after, then the session by `sessionBarrier_eq`. -/
theorem barrierChangesAreHandedOn : Obligations.BarrierChangesAreHandedOn := by
  intro s g k before changed t
  have hgate : (s.setGate g k).gate g = k := by rw [gate_setGate, if_pos rfl]
  have hchanged : changed = !before.sameState k.barrier := changed_eq before k.barrier
  have hsession : (t.deck g.deck).session = (s.deck g.deck).session := by
    unfold t
    split <;> rfl
  have hnoted : (if ((s.setGate g k).gate g).barrier = .fault ∧ before ≠ .fault then
      (s.setGate g k).raise .barrierFault (.gate g) else s.setGate g k) = t := by rw [hgate]
  unfold State.gateEvent State.barrierMoved
  dsimp only
  rw [hnoted, hgate, sessionBarrier_eq, hsession, hchanged]
  cases hsame : before.sameState k.barrier with
  | true => rfl
  | false => cases (s.deck g.deck).session <;> rfl

end Events

end Sys2Proof.Machine
end

section
/-! PROOFS. The host's requests on a gate: LOCK, UNLOCK, RAISE, LOWER and RESET_GATE (R101, R102, R104, R105, R118). -/

namespace Sys2Proof.Machine

section Requests

variable {s : State} {g : GateId}

/-! ### LOCK and UNLOCK (R102, R118) -/

theorem exec_lock (h : s.listening) (b : Byte) : exec (.lock b) s = .next (
    match gateOf b with
    | none => s.answered Code.lock .outOfRange
    | some g => (s.setGate g { s.gate g with locked := true }).answered Code.lock .done) := by
  change request Code.lock _ s = _
  rw [request_performed _ _ s h]
  cases gateOf b <;> rfl

theorem exec_unlock (h : s.listening) (b : Byte) : exec (.unlock b) s = .next (
    match gateOf b with
    | none => s.answered Code.unlock .outOfRange
    | some g => (s.unlockGate g).answered Code.unlock .done) := by
  change request Code.unlock _ s = _
  rw [request_performed _ _ s h]
  cases gateOf b <;> rfl

/-- A gate unlocked: the raise of a session that the lock held at DOWN is performed (R102). -/
theorem unlock_eq (g : Gate) (now : Nat) : g.unlock now =
    if g.barrier = .down ∧ g.request = some ⟨.raise, .session⟩ then
      { g with locked := false, request := none }.raiseRequest now .session
    else { g with locked := false } := by
  unfold Gate.unlock
  split
  · next hdown hraise =>
    rw [if_pos ⟨hdown, hraise⟩, beginRaise_eq rfl, raiseRequest_eq]
    simp only [hdown, Bool.false_eq_true, and_false, if_false]
  · next hne =>
    rw [if_neg fun ⟨hdown, hraise⟩ => hne hdown hraise]

/-- UNLOCK leaves the barrier, or begins a raising. -/
theorem unlock_barrier (g : Gate) (now : Nat) : (g.unlock now).barrier = g.barrier ∨
    (g.unlock now).barrier = { g with locked := false, request := none }.raisingStart now .session := by
  rw [unlock_eq]
  split
  · next hheld =>
    rw [raiseRequest_eq]
    simp only [hheld.1, Bool.false_eq_true, and_false, if_false, or_true]
  · exact Or.inl rfl

/-- The change of an unlocked gate moves no session (R93, R124). -/
theorem gateEvent_unlock (s : State) (g : GateId) :
    (s.gateEvent g fun x => x.unlock s.now) = s.setGate g ((s.gate g).unlock s.now) := by
  have hraising := raisingStart_ne { s.gate g with locked := false, request := none } s.now .session
  rcases unlock_barrier (s.gate g) s.now with hb | hb
  · exact gateEvent_setGate (by rw [hb]; exact id) (Or.inl (by rw [hb]; cases (s.gate g).barrier <;> rfl))
  · exact gateEvent_setGate (by rw [hb]; exact fun h => absurd h hraising.1) (Or.inr (by rw [hb]; exact hraising.2))

/-- UNLOCK by the gate's lock and its waiting call (R102, R118). -/
theorem unlockGate_eq (s : State) (g : GateId) : s.unlockGate g =
    if (s.gate g).locked = false then s
    else if (s.gate g).waiting = none then s.setGate g ((s.gate g).unlock s.now)
    else (s.setGate g ((s.gate g).unlock s.now)).offer g.deck := by
  unfold State.unlockGate
  dsimp only
  rw [gateEvent_unlock]
  cases (s.gate g).locked <;> cases (s.gate g).waiting <;> rfl

/-! ### RAISE and LOWER (R104) -/

theorem hostBarred_iff (s : State) (g : GateId) : s.hostBarred g = true ↔
    s.emergency.latch = true ∨ s.service.quiet = true ∨ (s.deck g.deck).session ≠ none ∨ (s.gate g).barrier = .fault ∨ (s.gate g).barrier = .forced := by
  simp only [State.hostBarred, Bool.or_eq_true, Option.isSome_iff_ne_none, beq_iff_eq, or_assoc]

/-- A host motion request that puts no barrier into FAULT only writes the gate: the deck has no session (R104). -/
theorem hostMove_eq {f : Gate → Gate} (hf : ∀ k, (f k).barrier = .fault → k.barrier = .fault) (s : State) (b : Byte) :
    s.hostMove b f = match gateOf b with
      | none => (s, .bare .outOfRange)
      | some g =>
        if s.hostBarred g = true then (s, .bare .wrongState)
        else (s.setGate g (f (s.gate g)), .done (.motion (f (s.gate g)).barrier (f (s.gate g)).request)) := by
  unfold State.hostMove
  cases gateOf b with
  | none => rfl
  | some g =>
    dsimp only
    by_cases hb : s.hostBarred g = true
    · rw [if_pos hb, if_pos hb]
    · have hvacant : (s.deck g.deck).session = none := by
        by_contra hsession
        exact hb ((hostBarred_iff s g).2 (Or.inr (Or.inr (Or.inl hsession))))
      rw [if_neg hb, if_neg hb, gateEvent_vacant hvacant (hf _)]

theorem exec_raise (h : s.listening) (b : Byte) : exec (.raise b) s = .next (
    match gateOf b with
    | none => s.answered Code.raise .outOfRange
    | some g =>
      let k := (s.gate g).raiseRequest s.now .host
      if s.hostBarred g = true then s.answered Code.raise .wrongState
      else (s.setGate g k).answered Code.raise .done (.motion k.barrier k.request)) := by
  change request Code.raise _ s = _
  rw [request_performed _ _ s h, hostMove_eq fun _ => raiseRequest_fault]
  cases gateOf b with
  | none => rfl
  | some g => cases hb : s.hostBarred g <;> simp only [hb] <;> rfl

theorem exec_lower (h : s.listening) (b : Byte) : exec (.lower b) s = .next (
    match gateOf b with
    | none => s.answered Code.lower .outOfRange
    | some g =>
      let k := (s.gate g).lowerRequest s.now .host
      if s.hostBarred g = true then s.answered Code.lower .wrongState
      else (s.setGate g k).answered Code.lower .done (.motion k.barrier k.request)) := by
  change request Code.lower _ s = _
  rw [request_performed _ _ s h, hostMove_eq fun _ => lowerRequest_fault]
  cases gateOf b with
  | none => rfl
  | some g => cases hb : s.hostBarred g <;> simp only [hb] <;> rfl

end Requests

/-- Settles O29: LOCK and UNLOCK by the gate, RAISE and LOWER by `hostBarred_iff`. -/
theorem hostGateRequests : Obligations.HostGateRequests := by
  refine ⟨fun s b h => ⟨exec_lock h b, ?_⟩, fun s b h => ?_⟩
  · rw [exec_unlock h]
    cases gateOf b with
    | none => rfl
    | some g =>
      dsimp only
      rw [unlockGate_eq, unlock_eq]
      split_ifs <;> rfl
  · constructor
    · rw [exec_raise h]
      simp only [hostBarred_iff] <;> rfl
    · rw [exec_lower h]
      simp only [hostBarred_iff] <;> rfl

/-! ### RESET_GATE (R101, R105) -/

/-- RESET_GATE places a barrier with exactly one switch ACTIVE (R101). -/
theorem not_placed_iff (g : Gate) : (!g.placed) = true ↔ g.upSwitch = g.downSwitch := by
  unfold Gate.placed
  cases g.upSwitch <;> cases g.downSwitch <;> decide

/-- The rest that the switches place a barrier at, with no request pending (R101). -/
def Gate.placedRest (g : Gate) : Gate := { g with request := none, barrier := if g.upSwitch = true then .up else .down }

/-- The barrier that RESET_GATE restores: by the latch, then by the pending request at the rest (R101, R105). -/
theorem restore_eq (g : Gate) (now : Nat) (latch : Bool) : g.restore now latch =
    if latch = true then { g with
      request := none
      barrier := if g.upSwitch = true then .forced
        else .raising .drive .emergency (now + g.driveLimit * 1000000) true }
    else match g.request with
      | none => g.placedRest
      | some r =>
        if g.upSwitch = true then (if r.kind = .lower then g.placedRest.lowerRequest now r.origin else g.placedRest)
        else (if r.kind = .raise then g.placedRest.raiseRequest now r.origin else g.placedRest) := by
  have hforced : { g with request := none }.raiseDrive now .emergency true =
      { g with request := none, barrier := g.driven now } := raiseDrive_forced _ now
  unfold Gate.restore
  dsimp only
  rw [hforced, Gate.driven]
  cases latch with
  | true => cases g.upSwitch <;> rfl
  | false =>
    rcases g.request with _ | ⟨_ | _, o⟩ <;> cases hup : g.upSwitch <;>
      simp only [Gate.placedRest, hup] <;> rfl

/-- RESET_GATE by its checks (R101). -/
theorem exec_resetGate {s : State} (h : s.listening) (b : Byte) : exec (.resetGate b) s = .next (
    match gateOf b with
    | none => s.answered Code.resetGate .outOfRange
    | some g =>
      let t := s.gateEvent g fun x => x.restore s.now s.emergency.latch
      if (s.gate g).barrier ≠ .fault then s.answered Code.resetGate .wrongState
      else if (!(s.gate g).placed) = true then s.answered Code.resetGate .wrongState
      else t.answered Code.resetGate .done (.barrier (t.gate g).barrier)) := by
  change request Code.resetGate _ s = _
  rw [request_performed _ _ s h]
  cases gateOf b with
  | none => rfl
  | some g =>
    dsimp only
    split_ifs <;> rfl

/-- Settles O31: the restored barrier by `restore_eq`, its change handed on as any other. -/
theorem resetGateRestoresTheBarrier : Obligations.ResetGateRestoresTheBarrier := by
  intro s b h
  rw [exec_resetGate h]
  cases gateOf b with
  | none => rfl
  | some g =>
    have hrestored := gateEvent_congr (s := s) (g := g)
      (f := fun x => x.restore s.now s.emergency.latch) (restore_eq (s.gate g) s.now s.emergency.latch)
    simp only [not_placed_iff]
    rw [hrestored]
    rfl

end Sys2Proof.Machine
end

section
/-! PROOFS. The events of a gate: its phase timers, its limit switches and its loop (R93, R96 to R100, R105). -/

namespace Sys2Proof.Machine

/-! ### The fault of a motion (R100) -/

/-- The pending request that a fault leaves: the motion's own, unless one of the other kind is pending (R100). -/
theorem faultRequest_eq (g : Gate) : g.faultRequest = match g.barrier with
    | .raising _ o _ false =>
      if (g.request.any fun r => r.kind == .lower) = true then g.request else some ⟨.raise, o⟩
    | .lowering _ o _ => if (g.request.any fun r => r.kind == .raise) = true then g.request else some ⟨.lower, o⟩
    | _ => g.request := by
  unfold Gate.faultRequest
  cases g.barrier with
  | raising p o due forced => cases forced <;> rcases g.request with _ | ⟨_ | _, q⟩ <;> rfl
  | lowering p o due => rcases g.request with _ | ⟨_ | _, q⟩ <;> rfl
  | down | up | forced | fault => rfl

/-! ### Phase timers (R93, R96, R97, R100) -/

section Lapses

variable {s : State} {g : GateId} {due : Nat}

/-- A phase timer that runs lapses at the moment it is due, or at once where that has passed (R90, R93). -/
theorem phaseLapse_due {p : Phase} {f : Nat → Gate → Gate} {k : Gate} (hdue : (s.gate g).phaseDue p = some due)
    (hk : f (max s.now due) (s.gate g) = k) :
    s.phaseLapse g p f = State.gateEvent { s with now := max s.now due } g fun _ => k := by
  unfold State.phaseLapse
  rw [hdue]
  exact gateEvent_congr (s := s.reach due) hk

/-- The event of a phase timer that runs. -/
theorem event_phaseLapse {p : Phase} {f : Nat → Gate → Gate} {k : Gate} (hp : s.powered = true)
    (hdue : (s.gate g).phaseDue p = some due) (hk : f (max s.now due) (s.gate g) = k) :
    event (fun x => x.phaseLapse g p f) s = .next (State.gateEvent { s with now := max s.now due } g fun _ => k) := by
  rw [event_powered _ s hp, phaseLapse_due hdue hk]

theorem exec_warnTimeLapse {k : Gate} (hp : s.powered = true) (hdue : (s.gate g).phaseDue .warn = some due)
    (hk : (s.gate g).warnLapse (max s.now due) = k) :
    exec (.warnTimeLapse g) s = .next (State.gateEvent { s with now := max s.now due } g fun _ => k) :=
  event_phaseLapse (f := fun now x => x.warnLapse now) hp hdue hk

theorem exec_driveLimitLapse {k : Gate} (hp : s.powered = true) (hdue : (s.gate g).phaseDue .drive = some due)
    (hk : (s.gate g).driveLapse = k) :
    exec (.driveLimitLapse g) s = .next (State.gateEvent { s with now := max s.now due } g fun _ => k) :=
  event_phaseLapse (f := fun _ x => x.driveLapse) hp hdue hk

theorem exec_settleTimeLapse {k : Gate} (hp : s.powered = true) (hdue : (s.gate g).phaseDue .settle = some due)
    (hk : (s.gate g).settleLapse (max s.now due) = k) :
    exec (.settleTimeLapse g) s = .next (State.gateEvent { s with now := max s.now due } g fun _ => k) :=
  event_phaseLapse (f := fun now x => x.settleLapse now) hp hdue hk

end Lapses

/-- Settles O32: each lapse hands on the gate that its phase leaves. -/
theorem phaseTimersMoveTheBarrier : Obligations.PhaseTimersMoveTheBarrier := by
  intro s g due hp k now s' driven rest
  have hphase (p : Phase) (o : Origin) (f : Bool) (hb : k.barrier = .raising p o due f) : k.phaseDue p = some due := by
    simp only [Gate.phaseDue, hb, if_true]
  have hphase' (p : Phase) (o : Origin) (hb : k.barrier = .lowering p o due) : k.phaseDue p = some due := by
    simp only [Gate.phaseDue, hb, if_true]
  refine ⟨fun o f hb hstart => ?_, fun o hb => ?_, fun o f hb => ?_, fun o hb => ?_, fun o f hb => ?_, fun o hb => ?_⟩
  · refine exec_warnTimeLapse hp (hphase _ _ _ hb) ?_
    have hwarn : k.warnLapse now = k.raiseDrive now o f := by simp only [Gate.warnLapse, hb]
    refine hwarn.trans (raiseDrive_eq fun hup hf hs => ?_)
    simp [hup, hf, hs] at hstart
  · refine exec_warnTimeLapse hp (hphase' _ _ hb) ?_
    have hwarn : k.warnLapse now = k.lowerDrive now o := by simp only [Gate.warnLapse, hb]
    exact hwarn.trans (lowerDrive_eq k now o)
  · refine exec_driveLimitLapse hp (hphase _ _ _ hb) ?_
    have hfault : k.driveLapse = k.toFault := by simp only [Gate.driveLapse, hb]
    rw [hfault, Gate.toFault, faultRequest_eq, hb]
    cases f <;> simp
  · refine exec_driveLimitLapse hp (hphase' _ _ hb) ?_
    have hfault : k.driveLapse = k.toFault := by simp only [Gate.driveLapse, hb]
    rw [hfault, Gate.toFault, faultRequest_eq, hb]
  · refine exec_settleTimeLapse hp (hphase _ _ _ hb) ?_
    have hsettle : k.settleLapse now = k.restUp now := by simp only [Gate.settleLapse, hb]
    exact hsettle.trans (restUp_eq k now)
  · refine exec_settleTimeLapse hp (hphase' _ _ hb) ?_
    have hsettle : k.settleLapse now = k.arriveDown := by simp only [Gate.settleLapse, hb]
    exact hsettle

/-! ### Limit switches (R93, R97, R100) -/

/-- The levels of the switches after a change of one. -/
theorem setSwitch_eq (g : Gate) (w : LimitSwitch) (active : Bool) : g.setSwitch w active = { g with
    upSwitch := match w with
      | .up => active
      | .down => g.upSwitch
    downSwitch := match w with
      | .up => g.downSwitch
      | .down => active } := by
  cases w <;> rfl

/-- The qualified level of one limit switch (R90). -/
def Gate.level (g : Gate) (w : LimitSwitch) : Bool :=
  match w with
  | .up => g.upSwitch
  | .down => g.downSwitch

/-- A change of a limit switch that contradicts the barrier's state (R100). -/
theorem contradicts_iff (g : Gate) (w : LimitSwitch) (active : Bool) :
    let up := (g.setSwitch w active).upSwitch
    let down := (g.setSwitch w active).downSwitch
    g.contradicts w active = true ↔ match g.barrier with
      | .down | .raising .warn _ _ _ | .lowering .settle _ _ => down = false ∧ w = .down ∨ up = true ∧ down = true
      | .up | .forced | .lowering .warn _ _ | .raising .settle _ _ _ => up = false ∧ w = .up ∨ up = true ∧ down = true
      | .raising .drive _ _ _ | .lowering .drive _ _ => up = true ∧ down = true
      | .fault => False := by
  have hdown : (w == .down && !active) = true ↔ (g.setSwitch w active).downSwitch = false ∧ w = .down := by
    cases w <;> simp [Gate.setSwitch]
  have hup : (w == .up && !active) = true ↔ (g.setSwitch w active).upSwitch = false ∧ w = .up := by
    cases w <;> simp [Gate.setSwitch]
  have hboth : ((g.setSwitch w active).upSwitch && (g.setSwitch w active).downSwitch) = true ↔
      (g.setSwitch w active).upSwitch = true ∧ (g.setSwitch w active).downSwitch = true := Bool.and_eq_true_iff
  unfold Gate.contradicts
  cases g.barrier with
  | raising p o due forced => cases p <;> simp only [Bool.or_eq_true, hboth, hdown, hup]
  | lowering p o due => cases p <;> simp only [Bool.or_eq_true, hboth, hdown, hup]
  | down | up | forced => simp only [Bool.or_eq_true, hboth, hdown, hup]
  | fault => simp only [Bool.false_eq_true]

section Switches

variable {g : Gate} {w : LimitSwitch} {active : Bool} {now : Nat}

theorem switchChange_contradicts (h : g.contradicts w active = true) :
    g.switchChange now w active = (g.setSwitch w active).toFault := if_pos h

/-- The up switch becomes ACTIVE in a raising DRIVE: SETTLE, or FORCED in a forced one (R93, R105). -/
theorem switchChange_up {o : Origin} {due : Nat} {forced : Bool} (h : ¬ g.contradicts .up true = true)
    (hb : g.barrier = .raising .drive o due forced) :
    g.switchChange now .up true = (g.setSwitch .up true).reachUp now o forced := by
  simp only [Gate.switchChange, if_neg h, hb]

/-- The down switch becomes ACTIVE in a lowering DRIVE: SETTLE (R93). -/
theorem switchChange_down {o : Origin} {due : Nat} (h : ¬ g.contradicts .down true = true)
    (hb : g.barrier = .lowering .drive o due) :
    g.switchChange now .down true = (g.setSwitch .down true).lowerSettle now o := by
  simp only [Gate.switchChange, if_neg h, hb]

/-- Any other change that does not contradict the state is recorded alone (R93, R100). -/
theorem switchChange_recorded (h : ¬ g.contradicts w active = true)
    (hup : ∀ o due forced, g.barrier = .raising .drive o due forced → w = .up → active = false)
    (hdown : ∀ o due, g.barrier = .lowering .drive o due → w = .down → active = false) :
    g.switchChange now w active = g.setSwitch w active := by
  simp only [Gate.switchChange, if_neg h]
  split
  · next hb => exact absurd (hup _ _ _ hb rfl) nofun
  · next hb => exact absurd (hdown _ _ hb rfl) nofun
  · rfl

end Switches

/-- LIMIT_SWITCH_CHANGE: a level that is already there is no change (R100; log 4). -/
theorem exec_limitSwitchChange {s : State} (hp : s.powered = true) (g : GateId) (w : LimitSwitch) (active : Bool) :
    exec (.limitSwitchChange g w active) s = .next (
      if (s.gate g).level w = active then s else s.gateEvent g fun x => x.switchChange s.now w active) :=
  event_powered (fun x => if (x.gate g).level w = active then x
    else x.gateEvent g fun k => k.switchChange x.now w active) s hp

/-- Settles O33: by `contradicts_iff`, then by the DRIVE whose target switch it is. -/
theorem limitSwitchesEndOrFaultAMotion : Obligations.LimitSwitchesEndOrFaultAMotion := by
  intro s g w active hp k up down k' faulty pending e unchanged
  have hk' : k.setSwitch w active = k' := setSwitch_eq k w active
  have hfaulty : k.contradicts w active = true ↔ faulty := by
    cases w <;> exact contradicts_iff k _ active
  have hchange {x : Gate} (hne : ¬ unchanged) (hx : k.switchChange s.now w active = x) :
      e = .next (s.gateEvent g fun _ => x) := by
    have hlevel : ¬ k.level w = active := hne
    exact (exec_limitSwitchChange hp g w active).trans (by rw [if_neg hlevel, gateEvent_congr hx])
  refine ⟨fun hsame => ?_, fun hne hf => ?_, fun hne hf o due f hb hw ha => ⟨fun hforced => ?_, fun hfree hs => ?_,
    fun hfree hs => ?_⟩, fun hne hf o due hb hw ha => ?_, fun hne hf hup hdown => ?_⟩
  · exact (exec_limitSwitchChange hp g w active).trans (congrArg _ (if_pos hsame))
  · refine hchange hne ?_
    rw [switchChange_contradicts (hfaulty.2 hf), hk']
    exact congrArg (fun r => { k' with barrier := .fault, request := r }) (faultRequest_eq k')
  · subst w active
    refine hchange hne ?_
    rw [switchChange_up (mt hfaulty.1 hf) hb, hk', Gate.reachUp, if_pos hforced]
  · subst w active
    refine hchange hne ?_
    rw [switchChange_up (mt hfaulty.1 hf) hb, hk', Gate.reachUp, hfree, if_neg Bool.false_ne_true, Gate.raiseSettle]
    exact if_neg hs
  · subst w active
    refine hchange hne ?_
    rw [switchChange_up (mt hfaulty.1 hf) hb, hk', Gate.reachUp, hfree, if_neg Bool.false_ne_true, Gate.raiseSettle]
    exact (if_pos hs).trans (restUp_eq k' s.now)
  · subst w active
    refine hchange hne ?_
    rw [switchChange_down (mt hfaulty.1 hf) hb, hk']
    exact lowerSettle_eq k' s.now o
  · exact hchange hne ((switchChange_recorded (mt hfaulty.1 hf) hup hdown).trans hk')

end Sys2Proof.Machine
end

section
/-! PROOFS. The loop of a gate and its reader (R97 to R99, R109, R110, R147). -/

namespace Sys2Proof.Machine

/-! ### The loop (R97 to R99, R147) -/

section Loops

variable {g : Gate} {now : Nat}

/-- The gate after the loop guard (R99): the barrier raises with the origin of its lowering, and a LOWER is pending. -/
def Gate.guardRaised (g : Gate) (now : Nat) (o : Origin) : Gate :=
  { g with
    occupied := true
    request := some ⟨.lower, o⟩
    barrier := if g.upSwitch = false then .raising .drive o (now + g.driveLimit * 1000000) false
      else if g.settleTime ≠ 0 then .raising .settle o (now + g.settleTime * 500000) false
      else .up }

theorem raiseDrive_guard (g : Gate) (now : Nat) (o : Origin) :
    { g with occupied := true, request := some ⟨.lower, o⟩ }.raiseDrive now o false = g.guardRaised now o :=
  raiseDrive_eq fun _ _ _ => restUp_stays (Or.inl rfl)

/-- A change of the loop: the loop guard on a lowering in WARN or DRIVE, the pending LOWER at UP (R97, R99). -/
theorem loopChange_eq (g : Gate) (now : Nat) (occupied : Bool) : g.loopChange now occupied =
    match g.barrier, occupied with
    | .lowering .warn o _, true => g.guardRaised now o
    | .lowering .drive o _, true => g.guardRaised now o
    | .up, false => match g.request with
      | some r => if r.kind = .lower then { g with occupied := false, request := none }.lowerRequest now r.origin
          else { g with occupied := false }
      | none => { g with occupied := false }
    | _, _ => { g with occupied := occupied } := by
  unfold Gate.loopChange
  cases g.barrier with
  | lowering p o due =>
    cases p with
    | warn | drive =>
      cases occupied with
      | true => exact raiseDrive_guard g now o
      | false => rfl
    | settle => rfl
  | up =>
    cases occupied with
    | true => rfl
    | false =>
      refine (restUp_eq { g with barrier := .up, occupied := false } now).trans ?_
      simp only [and_true] <;> rfl
  | down | raising | forced | fault => rfl

end Loops

/-- A loop that becomes OCCUPIED is a wake source where the loop wake is allowed (R147). -/
theorem loopEvent_eq (s : State) (g : GateId) (occupied : Bool) :
    s.loopEvent g occupied =
      let t := (s.gateEvent g fun x => x.loopChange s.now occupied).sessionLoop g occupied
      if occupied = true ∧ t.service.loopWake = true ∧ t.service.quiet = true then t.wakeYard (.loop g) else t := by
  unfold State.loopEvent State.wakeSource
  dsimp only
  generalize (s.gateEvent g fun x => x.loopChange s.now occupied).sessionLoop g occupied = t
  cases occupied <;> cases t.service.loopWake <;> cases t.service.quiet <;> rfl

/-- LOOP_STATE_CHANGE: a level that is already there is no change (R98; log 4). -/
theorem exec_loopStateChange {s : State} (hp : s.powered = true) (g : GateId) (occupied : Bool) :
    exec (.loopStateChange g occupied) s =
      .next (if (s.gate g).occupied = occupied then s else s.loopEvent g occupied) :=
  event_powered (fun x => if (x.gate g).occupied = occupied then x else x.loopEvent g occupied) s hp

/-- Settles O34: the gate by `loopChange_eq`, then the session and the wake. -/
theorem loopChangesGuardTheBarrier : Obligations.LoopChangesGuardTheBarrier := by
  intro s g occupied hp k guarded k' t
  have hgate : s.gateEvent g (fun x => x.loopChange s.now occupied) = s.gateEvent g fun _ => k' :=
    gateEvent_congr (f := fun x => x.loopChange s.now occupied) (loopChange_eq k s.now occupied)
  rw [exec_loopStateChange hp, loopEvent_eq, hgate]

/-! ### Tag frames (R109, R188, R189) -/

/-- A list of six bytes, byte by byte. -/
theorem length_eq_six_iff (f : List Byte) : f.length = 6 ↔ ∃ a b c d e g : Byte, f = [a, b, c, d, e, g] := by
  constructor
  · intro hf
    match f, hf with
    | [a, b, c, d, e, g], _ => exact ⟨a, b, c, d, e, g, rfl⟩
  · rintro ⟨a, b, c, d, e, g, rfl⟩
    rfl

/-- The tag of six bytes read as a reader frame (R188, R189). -/
theorem tagFrameOf_bytes (b0 b1 b2 b3 b4 check : Byte) : tagFrameOf [b0, b1, b2, b3, b4, check] =
    if b0 = 0x02 ∧ b0 + b1 + b2 + b3 + b4 + check = 0 then tagOf (fieldAt 32 [b1, b2, b3, b4, check] 0 4) else none := by
  have hsum : byteSum [b0, b1, b2, b3, b4, check] = b0 + b1 + b2 + b3 + b4 + check := by
    simp [byteSum]
  unfold tagFrameOf
  rw [hsum]
  refine if_congr ?_ rfl rfl
  simp [byteAt]

/-- A tag is not 0 (R46). -/
theorem tagOf_eq_some_iff (x t : Tag) : tagOf x = some t ↔ x = t ∧ t ≠ 0 := by
  unfold tagOf
  split
  · next h => exact ⟨nofun, fun ⟨hx, ht⟩ => absurd (hx ▸ h) ht⟩
  · next h => exact ⟨fun ht => ⟨Option.some.inj ht, Option.some.inj ht ▸ h⟩, fun ht => congrArg some ht.1⟩

/-- A reader frame is six bytes that begin with 02h and sum to 0, and carries its tag in the next four. -/
theorem tagFrameOf_eq_some_iff (f : List Byte) (t : Tag) : tagFrameOf f = some t ↔
    ∃ b1 b2 b3 b4 check : Byte, f = [0x02, b1, b2, b3, b4, check] ∧ 0x02 + b1 + b2 + b3 + b4 + check = 0 ∧ t ≠ 0 ∧
      t.toNat = ((b1.toNat * 256 + b2.toNat) * 256 + b3.toNat) * 256 + b4.toNat := by
  constructor
  · intro h
    have hlen : f.length = 6 := by
      unfold tagFrameOf at h
      split at h
      · next hf => exact hf.1
      · cases h
    obtain ⟨b0, b1, b2, b3, b4, check, rfl⟩ := (length_eq_six_iff f).1 hlen
    rw [tagFrameOf_bytes] at h
    split at h
    · next hf =>
      obtain ⟨rfl, hsum⟩ := hf
      obtain ⟨rfl, hne⟩ := (tagOf_eq_some_iff _ t).1 h
      exact ⟨b1, b2, b3, b4, check, rfl, hsum, hne, keyNumber b1 b2 b3 b4 [check]⟩
    · cases h
  · rintro ⟨b1, b2, b3, b4, check, rfl, hsum, hne, hnum⟩
    rw [tagFrameOf_bytes, if_pos ⟨rfl, hsum⟩, tagOf_eq_some_iff]
    exact ⟨BitVec.eq_of_toNat_eq ((keyNumber b1 b2 b3 b4 [check]).trans hnum.symm), hne⟩

/-! ### Reads (R109, R110, R147) -/

section Reads

variable {s : State} {g : GateId} {f : List Byte} {t : Tag}

/-- A gate written with its own channel. -/
@[simp] theorem setGate_self (s : State) (g : GateId) : s.setGate g (s.gate g) = s := by
  cases g <;> rfl

/-- A read of the tag that the gate read last, within three seconds of it, is suppressed (R110). -/
theorem read_suppressed {k : Gate} {now : Nat} {m : RepeatMemory} (hm : k.memory = some m) (ht : m.tag = t)
    (hsince : now < m.since + 3000000) : k.read now t = (k, false) := by
  simp only [Gate.read, hm]
  exact if_pos ⟨ht, hsince⟩

/-- Any other read is accepted, and remembered (R110). -/
theorem read_accepted {k : Gate} {now : Nat}
    (h : ¬ ∃ m, k.memory = some m ∧ m.tag = t ∧ now < m.since + 3000000) :
    k.read now t = ({ k with memory := some ⟨t, now⟩ }, true) := by
  unfold Gate.read
  split
  · next m hm => exact if_neg fun hrepeat => h ⟨m, hm, hrepeat⟩
  · rfl

/-- TAG_FRAME by the frame's tag (R109, R110). -/
theorem exec_tagFrame (hp : s.powered = true) : exec (.tagFrame g f) s = .next (
    match tagFrameOf f with
    | none => s.setGate g (s.gate g).drop
    | some t =>
      let r := (s.gate g).read s.now t
      if r.2 = true then (s.setGate g r.1).acceptedRead g t else s.setGate g r.1) := by
  change execTagFrame g f s = _
  rw [execTagFrame, event_powered _ s hp] <;> rfl

theorem exec_tagFrame_malformed (hp : s.powered = true) (hf : tagFrameOf f = none) :
    exec (.tagFrame g f) s = .next (s.setGate g (s.gate g).drop) := by
  rw [exec_tagFrame hp, hf]

theorem exec_tagFrame_suppressed {m : RepeatMemory} (hp : s.powered = true) (hf : tagFrameOf f = some t)
    (hm : (s.gate g).memory = some m) (ht : m.tag = t) (hsince : s.now < m.since + 3000000) :
    exec (.tagFrame g f) s = .next s := by
  rw [exec_tagFrame hp, hf]
  simp only [read_suppressed hm ht hsince, Bool.false_eq_true, if_false, setGate_self]

theorem exec_tagFrame_accepted (hp : s.powered = true) (hf : tagFrameOf f = some t)
    (h : ¬ ∃ m, (s.gate g).memory = some m ∧ m.tag = t ∧ s.now < m.since + 3000000) :
    exec (.tagFrame g f) s =
      .next ((s.setGate g { s.gate g with memory := some ⟨t, s.now⟩ }).acceptedRead g t) := by
  rw [exec_tagFrame hp, hf]
  simp only [read_accepted h, if_true]

end Reads

/-- Settles O35: the frames by `tagFrameOf_eq_some_iff`, an accepted read by the quiet state and the tag wake. -/
theorem tagFramesBecomeCalls : Obligations.TagFramesBecomeCalls := by
  refine ⟨tagFrameOf_eq_some_iff, fun s g f hp => ⟨exec_tagFrame_malformed hp, fun t ht => ⟨?_, ?_, ?_, ?_⟩⟩⟩
  · rintro ⟨m, hm, htag, hsince⟩
    exact exec_tagFrame_suppressed hp ht hm htag hsince
  all_goals
    intro h
    rw [exec_tagFrame_accepted hp ht h, State.acceptedRead]
  · intro hq
    exact congrArg _ (if_neg (ne_true_of_eq_false hq))
  · intro hq hw
    exact congrArg _ ((if_pos hq).trans (if_neg (ne_true_of_eq_false hw)))
  · intro hq hw
    exact congrArg _ ((if_pos hq).trans (if_pos hw))

end Sys2Proof.Machine
end

section
/-! PROOFS. The emergency latch set over the sessions of the yard, and its release (R105, R106, R118, R137 to R141). -/

namespace Sys2Proof.Machine

/-! ### The forced raise (R105, R138) -/

theorem raisedByForce_ne_down (k : Gate) (now : Nat) : (k.raisedByForce now).barrier ≠ .down := by
  have hdriven : k.driven now ≠ .down := by
    unfold Gate.driven
    split <;> exact nofun
  unfold Gate.raisedByForce
  dsimp only
  split
  case h_4 =>
    split
    · exact nofun
    · exact hdriven
  case h_5 => exact hdriven
  all_goals exact nofun

/-- The forced raise at one gate moves no session: the barrier is not DOWN after it (R105, R124, R129). -/
theorem gateEvent_forcedRaise (s : State) (g : GateId) :
    (s.gateEvent g fun k => k.forcedRaise s.now) = s.setGate g ((s.gate g).raisedByForce s.now) := by
  have hmove : ((s.gate g).forcedRaise s.now).barrier ≠ .down := by
    rw [forcedRaise_eq]
    exact raisedByForce_ne_down _ _
  rw [← forcedRaise_eq]
  exact gateEvent_setGate forcedRaise_fault (.inr hmove)

/-- The forced raise at every gate, whatever the sessions (R138). -/
theorem eachGate_forcedRaise_eq (s : State) :
    (s.eachGate fun x g => x.gateEvent g fun k => k.forcedRaise x.now) = { s with
      gates := ⟨s.gates.g1R.raisedByForce s.now, s.gates.g1Y.raisedByForce s.now, s.gates.g2R.raisedByForce s.now,
        s.gates.g2Y.raisedByForce s.now⟩ } :=
  eachGate_replace (P := fun _ => True) (fun now k => k.raisedByForce now) (fun _ _ _ h => h)
    (fun x g _ => gateEvent_forcedRaise x g) trivial

/-! ### The undo of a visit (R46, R63, R139) -/

/-- A slot after the undo of its visit: FREE where it was ARRIVING, ON_SITE with the over-stay check where DEPARTING. -/
def Slot.undone (sl : Slot) (x : Service) : Slot :=
  match sl.visit with
  | some v =>
    match v.state with
    | .arriving _ => ⟨sl.revision + 1, none⟩
    | .departing _ w => ⟨sl.revision + 1, some { v with
        state := .onSite w
        overStay := v.overStay || decide (v.opened.toNat + x.maxStay * 3600 < x.clock.toNat) }⟩
    | _ => sl
  | none => sl

theorem slot_undone_of_none {sl : Slot} (h : sl.visit = none) (x : Service) : sl.undone x = sl := by
  simp only [Slot.undone, h]

theorem slot_undone_arriving {sl : Slot} {v : Visit} {d : DeckId} (h : sl.visit = some v) (hv : v.state = .arriving d)
    (x : Service) : sl.undone x = ⟨sl.revision + 1, none⟩ := by
  simp only [Slot.undone, h, hv]

theorem slot_undone_departing {sl : Slot} {v : Visit} {d : DeckId} {w : Weighing} (h : sl.visit = some v)
    (hv : v.state = .departing d w) (x : Service) : sl.undone x = ⟨sl.revision + 1, some { v with
      state := .onSite w
      overStay := v.overStay || decide (v.opened.toNat + x.maxStay * 3600 < x.clock.toNat) }⟩ := by
  simp only [Slot.undone, h, hv]

/-- A visit without a session deck is not undone (R42, R46). -/
theorem slot_undone_of_sessionDeck {sl : Slot} {v : Visit} (h : sl.visit = some v) (hv : v.sessionDeck = none)
    (x : Service) : sl.undone x = sl := by
  cases hst : v.state with
  | arriving | departing => simp only [Visit.sessionDeck, hst, reduceCtorEq] at hv
  | onSite | held | closed => simp only [Slot.undone, h, hst]

/-- `t` is `s` with the visit of slot `n` undone: the slot, its account's count, and OVER_STAY (R46, R63). -/
structure VisitUndone (s t : State) (n : Nat) : Prop where
  frame : RecordsOnly s t
  slot : ∀ m, t.slot m = if m = n then (s.slot n).undone s.service else s.slot m
  notices : ∀ i, i ≠ 11 → t.notices[i]? = s.notices[i]?
  vehicles : t.vehicles = s.vehicles
  printing : t.printing = s.printing

/-- A slot read after a slot was replaced. -/
theorem slot_of_set {s t : State} {n : Nat} {x : Slot} (h : t.register.slots = s.register.slots.set n x)
    (hn : n < s.register.slots.length) (m : Nat) : t.slot m = if m = n then x else s.slot m := by
  simp only [State.slot, h, List.getD_eq_getElem?_getD, List.getElem?_set, if_pos hn, eq_comm (a := n)]
  split <;> rfl

/-- A slot that an undo leaves as it is. -/
theorem visitUndone_self {s : State} {n : Nat} (h : (s.slot n).undone s.service = s.slot n) : VisitUndone s s n where
  frame := .refl s
  slot m := by
    rw [h]
    split
    · next hm => rw [hm]
    · rfl
  notices _ _ := rfl
  vehicles := rfl
  printing := rfl

theorem undo_of_sessionDeck {s : State} {n : Nat} {v : Visit} (h : s.visit n = some v) (hv : v.sessionDeck = none) :
    s.undo n = s := by
  cases hst : v.state with
  | arriving | departing => simp only [Visit.sessionDeck, hst, reduceCtorEq] at hv
  | onSite | held | closed => simp only [State.undo, h, hst]

/-- OVER_STAY is no more than an undo may raise. -/
theorem VisitUndone.raise {s t : State} {n : Nat} (h : VisitUndone s t n) (x : Detail) :
    VisitUndone s (t.raise .overStay x) n where
  frame := h.frame.trans (raise_records _ _ _)
  slot := h.slot
  notices i hi := by
    rw [getElem?_raise, ← h.notices i hi]
    simp [NoticeKind.order, Ne.symm hi]
  vehicles := h.vehicles
  printing := h.printing

/-- A slot replaced by its undone record, with any accounts. -/
theorem visitUndone_set {s : State} {n : Nat} {sl : Slot} (a : List Account) (hn : n < s.register.slots.length)
    (h : (s.slot n).undone s.service = sl) :
    VisitUndone s { s with register := { s.register with slots := s.register.slots.set n sl }, accounts := a } n where
  frame := ⟨rfl, rfl, rfl, rfl, rfl, rfl, rfl, rfl, rfl, rfl⟩
  slot m := by
    rw [h]
    exact slot_of_set rfl hn m
  notices _ _ := rfl
  vehicles := rfl
  printing := rfl

/-- The over-stay check of a visit that is flagged already leaves its flag (R63). -/
theorem or_decide_late (b : Bool) (late : Prop) [Decidable late] :
    (b || decide (b = false ∧ late)) = (b || decide late) := by
  cases b <;> simp

theorem undo_undone (s : State) (n : Nat) : VisitUndone s (s.undo n) n := by
  cases hv : s.visit n with
  | none =>
    have hself : s.undo n = s := by simp only [State.undo, hv]
    rw [hself]
    exact visitUndone_self (slot_undone_of_none hv _)
  | some v =>
    have hlt := lt_of_visit hv
    cases hst : v.state with
    | arriving d =>
      rw [undo_arriving hv hst]
      exact visitUndone_set _ hlt (slot_undone_arriving hv hst _)
    | departing d w =>
      rw [undo_departing hv hst,
        enterOnSite_eq (v := { v with state := .onSite w }) hv (by simp [hst]) rfl Iff.rfl, or_decide_late]
      have hset := visitUndone_set s.accounts hlt (slot_undone_departing hv hst s.service)
      exact keeps_ite (P := fun t => VisitUndone s t n) (hset.raise _) hset
    | onSite | held | closed =>
      have hdeck : v.sessionDeck = none := by simp only [Visit.sessionDeck, hst]
      rw [undo_of_sessionDeck hv hdeck]
      exact visitUndone_self (slot_undone_of_sessionDeck hv hdeck _)

/-! ### The sessions ended (R139, R140) -/

/-- The slot of the visit that a session has opened and not yet settled (R112, R139). -/
def State.openSlot (s : State) (d : DeckId) : Option Nat :=
  match (s.deck d).session with
  | some x => if x.stage = .called ∨ x.stage = .boarding ∨ x.stage = .onDeck then some x.slot else none
  | none => none

theorem openSlot_eq_some_iff {s : State} {d : DeckId} {n : Nat} : s.openSlot d = some n ↔
    ∃ x, (s.deck d).session = some x ∧ x.slot = n ∧ (x.stage = .called ∨ x.stage = .boarding ∨ x.stage = .onDeck) := by
  unfold State.openSlot
  cases (s.deck d).session with
  | none => exact ⟨nofun, nofun⟩
  | some x =>
    dsimp only
    split
    · next h => exact ⟨fun hn => ⟨x, rfl, Option.some.inj hn, h⟩, fun ⟨y, hy, hn, _⟩ => by cases hy; rw [hn]⟩
    · next h => exact ⟨nofun, fun ⟨y, hy, _, hstage⟩ => by cases hy; exact absurd hstage h⟩

/-- The visits with a session deck are the open slots of the sessions (R42, R112). -/
theorem openSlot_iff {s : State} (h : SessionDeckLaw s) (hp : s.powered = true) {n : Nat} {v : Visit}
    (hv : s.visit n = some v) (d : DeckId) : s.openSlot d = some n ↔ v.sessionDeck = some d := by
  rw [openSlot_eq_some_iff, ← h hp d n]
  constructor
  · rintro ⟨u, hu, hdeck⟩
    rwa [Option.some.inj (hv.symm.trans hu)]
  · exact fun hdeck => ⟨v, hv, hdeck⟩

/-- The end of a session undoes the visit of its open slot, and empties the deck (R139). -/
theorem abortSession_eq (s : State) (d : DeckId) : s.abortSession d =
    match s.openSlot d with
    | some n => (s.undo n).vacate d
    | none => s.vacate d := by
  unfold State.abortSession State.openSlot
  cases (s.deck d).session with
  | none => rfl
  | some x =>
    dsimp only
    cases x.stage <;> simp

/-- An emptied deck whose waiting calls are dropped: both gates emptied, the session ended (R139, R140). -/
theorem vacate_dropCalls_eq (s : State) (d : DeckId) : (s.vacate d).dropCalls d =
    ((s.setGate (d.gate .road) (s.gate (d.gate .road)).emptied).setGate (d.gate .yard)
      (s.gate (d.gate .yard)).emptied).setDeck d { s.deck d with session := none } := by
  cases d <;> rfl

/-- `t` is `s` with the session of deck `d` ended and its waiting calls dropped (R139, R140). -/
structure SessionEnded (d : DeckId) (s t : State) : Prop where
  gate : ∀ g, t.gate g = if g.deck = d then (s.gate g).emptied else s.gate g
  deck : ∀ e, t.deck e = if e = d then { s.deck e with session := none } else s.deck e
  slot : ∀ n, t.slot n = if s.openSlot d = some n then (s.slot n).undone s.service else s.slot n
  notices : ∀ i, i ≠ 11 → t.notices[i]? = s.notices[i]?
  emergency : t.emergency = s.emergency
  service : t.service = s.service
  vehicles : t.vehicles = s.vehicles
  kinds : t.kinds = s.kinds
  printing : t.printing = s.printing
  link : t.link = s.link
  now : t.now = s.now

/-- The gates and decks of a yard that is emptied after records have changed. -/
theorem sessionEnded_of {s t : State} {d : DeckId} (hframe : RecordsOnly s t)
    (hslot : ∀ n, t.slot n = if s.openSlot d = some n then (s.slot n).undone s.service else s.slot n)
    (hnotices : ∀ i, i ≠ 11 → t.notices[i]? = s.notices[i]?) (hvehicles : t.vehicles = s.vehicles)
    (hprinting : t.printing = s.printing) : SessionEnded d s ((t.vacate d).dropCalls d) := by
  rw [vacate_dropCalls_eq]
  exact
    { gate := fun g => by
        rw [← gate_congr hframe.gates g]
        cases d <;> cases g <;> rfl
      deck := fun e => by
        rw [← deck_congr hframe.decks e]
        cases d <;> cases e <;> rfl
      slot := hslot
      notices := hnotices
      emergency := hframe.emergency
      service := hframe.service
      vehicles := hvehicles
      kinds := hframe.kinds
      printing := hprinting
      link := hframe.link
      now := hframe.now }

theorem abortSession_ended (s : State) (d : DeckId) : SessionEnded d s ((s.abortSession d).dropCalls d) := by
  rw [abortSession_eq]
  cases hopen : s.openSlot d with
  | none => exact sessionEnded_of (.refl s) (fun n => by rw [hopen]; rfl) (fun _ _ => rfl) rfl rfl
  | some n =>
    have h := undo_undone s n
    refine sessionEnded_of h.frame (fun m => ?_) h.notices h.vehicles h.printing
    rw [h.slot, hopen]
    by_cases hm : m = n
    · rw [if_pos hm, if_pos (congrArg some hm.symm), hm]
    · rw [if_neg hm, if_neg fun he => hm (Option.some.inj he).symm]

/-- `t` is `s` with both sessions ended and every waiting call dropped (R139, R140). -/
structure SessionsEnded (s t : State) : Prop where
  gate : ∀ g, t.gate g = (s.gate g).emptied
  deck : ∀ d, t.deck d = { s.deck d with session := none }
  kept : ∀ n, (s.slot n).undone s.service = s.slot n → t.slot n = s.slot n
  undone : ∀ n d, s.openSlot d = some n → (∀ e, s.openSlot e = some n → e = d) →
    t.slot n = (s.slot n).undone s.service
  notices : ∀ i, i ≠ 11 → t.notices[i]? = s.notices[i]?
  emergency : t.emergency = s.emergency
  service : t.service = s.service
  vehicles : t.vehicles = s.vehicles
  kinds : t.kinds = s.kinds
  printing : t.printing = s.printing
  link : t.link = s.link
  now : t.now = s.now

theorem SessionEnded.both {s t u : State} (h1 : SessionEnded .d1 s t) (h2 : SessionEnded .d2 t u) :
    SessionsEnded s u := by
  have hopen : t.openSlot .d2 = s.openSlot .d2 := by
    unfold State.openSlot
    rw [h1.deck, if_neg (by decide)]
  have hslot (n : Nat) : u.slot n = if s.openSlot .d2 = some n then (t.slot n).undone s.service else t.slot n := by
    rw [h2.slot, hopen, h1.service]
  exact
    { gate := fun g => by rw [h2.gate, h1.gate]; cases g <;> rfl
      deck := fun d => by rw [h2.deck, h1.deck]; cases d <;> rfl
      kept := fun n hn => by rw [hslot, h1.slot, hn, ite_self, hn, ite_self]
      undone := fun n d hd honly => by
        rw [hslot, h1.slot]
        cases d with
        | d1 =>
          have hother : ¬ s.openSlot .d2 = some n := fun h => absurd (honly _ h) (by decide)
          rw [if_pos hd, if_neg hother]
        | d2 =>
          have hother : ¬ s.openSlot .d1 = some n := fun h => absurd (honly _ h) (by decide)
          rw [if_pos hd, if_neg hother]
      notices := fun i hi => (h2.notices i hi).trans (h1.notices i hi)
      emergency := h2.emergency.trans h1.emergency
      service := h2.service.trans h1.service
      vehicles := h2.vehicles.trans h1.vehicles
      kinds := h2.kinds.trans h1.kinds
      printing := h2.printing.trans h1.printing
      link := h2.link.trans h1.link
      now := h2.now.trans h1.now }

theorem eachDeck_sessionsEnded (s : State) :
    SessionsEnded s (s.eachDeck fun x d => (x.abortSession d).dropCalls d) :=
  (abortSession_ended s .d1).both (abortSession_ended _ .d2)

end Sys2Proof.Machine
end

section
/-! PROOFS. EMERGENCY_INPUT_CHANGE and EMERGENCY_RELEASE (R106, R118, R137 to R141, R147, R148). -/

namespace Sys2Proof.Machine

/-! ### The wake of the yard by a source (R147, R148) -/

/-- A deck that a wake finds, by its availability (R14, R19, R21). -/
theorem awake_eq (k : Deck) (now : Nat) : k.awake now =
    if k.unit.reading.availability = .asleep then { k with
      cells := { k.cells with cycle := none }
      unit := { zd := k.cal.zSet, refPresent := false, warmUp := some (now + 2000000)
                ref := if k.unit.refPresent = true then k.unit.ref - (k.cal.zSet - k.unit.zd) else k.unit.ref
                reading := k.unit.reading.emptied .warming } }
    else k := by
  unfold Deck.awake
  split
  · next h => rw [if_pos h]
  · next h => rw [if_neg h]

theorem awake_kept (k : Deck) (now : Nat) :
    (k.awake now).session = k.session ∧ (k.awake now).cal = k.cal ∧ (k.awake now).times = k.times := by
  unfold Deck.awake
  split <;> exact ⟨rfl, rfl, rfl⟩

/-- What a wake source leaves of the yard: all but the decks' weighing, the quiet state and WOKEN (R147, R148). -/
structure WakeKept (s t : State) : Prop where
  gates : t.gates = s.gates
  register : t.register = s.register
  emergency : t.emergency = s.emergency
  vehicles : t.vehicles = s.vehicles
  kinds : t.kinds = s.kinds
  printing : t.printing = s.printing
  link : t.link = s.link
  now : t.now = s.now
  notices : ∀ i, i ≠ 14 → t.notices[i]? = s.notices[i]?
  session : ∀ d, (t.deck d).session = (s.deck d).session
  cal : ∀ d, (t.deck d).cal = (s.deck d).cal
  times : ∀ d, (t.deck d).times = (s.deck d).times

theorem wakeYard_deck (s : State) (c : WakeCause) (d : DeckId) : (s.wakeYard c).deck d = (s.deck d).awake s.now := by
  rw [wakeYard_eq]
  cases d <;> rfl

theorem wakeYard_kept (s : State) (c : WakeCause) : WakeKept s (s.wakeYard c) := by
  have hdeck (d : DeckId) := awake_kept (s.deck d) s.now
  simp only [← wakeYard_deck s c] at hdeck
  rw [wakeYard_eq] at hdeck ⊢
  exact
    { gates := rfl
      register := rfl
      emergency := rfl
      vehicles := rfl
      kinds := rfl
      printing := rfl
      link := rfl
      now := rfl
      notices := fun i hi => by
        rw [getElem?_raise]
        simp [NoticeKind.order, Ne.symm hi]
      session := fun d => (hdeck d).1
      cal := fun d => (hdeck d).2.1
      times := fun d => (hdeck d).2.2 }

theorem wakeSource_kept (s : State) (c : WakeCause) : WakeKept s (s.wakeSource c) := by
  unfold State.wakeSource
  split
  · exact wakeYard_kept s c
  · exact ⟨rfl, rfl, rfl, rfl, rfl, rfl, rfl, rfl, fun _ _ => rfl, fun _ => rfl, fun _ => rfl, fun _ => rfl⟩

/-! ### The latch set (R137 to R140, R143) -/

/-- The yard at the setting of the latch, with the forced raises made (R105, R137, R138). -/
def State.forcedOpen (s : State) : State :=
  { s with
    emergency := ⟨true, true⟩
    gates := ⟨s.gates.g1R.raisedByForce s.now, s.gates.g1Y.raisedByForce s.now, s.gates.g2R.raisedByForce s.now,
      s.gates.g2Y.raisedByForce s.now⟩ }

/-- The yard with its sessions ended after the forced raises (R139, R140). -/
def State.evacuated (s : State) : State := s.forcedOpen.eachDeck fun x d => (x.abortSession d).dropCalls d

theorem gate_forcedOpen (s : State) (g : GateId) : s.forcedOpen.gate g = (s.gate g).raisedByForce s.now := by
  cases g <;> rfl

/-- EMERGENCY_INPUT_CHANGE: a level that is already there is no change (R137; log 4). -/
theorem exec_emergencyInputChange {s : State} (hp : s.powered = true) (active : Bool) :
    exec (.emergencyInputChange active) s = .next (
      if s.emergency.input = active then s
      else if (active && !s.emergency.latch) = true then
        State.setLatch { s with emergency := { s.emergency with input := active } }
      else { s with emergency := { s.emergency with input := active } }) :=
  event_powered (fun x => if x.emergency.input = active then x
    else if (active && !x.emergency.latch) = true then
      State.setLatch { x with emergency := { x.emergency with input := active } }
    else { x with emergency := { x.emergency with input := active } }) s hp

/-- The yard once the latch is set: evacuated, woken, and the emergency noted (R137 to R140, R143, R147). -/
def State.alarmed (s : State) : State := (s.evacuated.wakeSource .emergency).raise .emergency .nothing

theorem exec_emergencyInputChange_set {s : State} (hp : s.powered = true) (he : s.emergency = ⟨false, false⟩) :
    exec (.emergencyInputChange true) s = .next s.alarmed := by
  rw [exec_emergencyInputChange hp, he]
  simp only [Bool.false_eq_true, if_false, Bool.not_false, Bool.and_self, if_true]
  unfold State.setLatch
  dsimp only
  rw [eachGate_forcedRaise_eq]
  rfl

section Alarm

variable (s : State)

theorem evacuated_ended : SessionsEnded s.forcedOpen s.evacuated := eachDeck_sessionsEnded _

theorem alarmed_woken : WakeKept s.evacuated (s.evacuated.wakeSource .emergency) := wakeSource_kept _ _

/-- Every gate is forced open and emptied (R105, R139, R140). -/
theorem gate_alarmed (g : GateId) : s.alarmed.gate g = (s.gate g).latched s.now := by
  have hwoken : s.alarmed.gate g = s.evacuated.gate g := gate_congr (alarmed_woken s).gates g
  rw [hwoken, (evacuated_ended s).gate, gate_forcedOpen, Gate.latched]

theorem slot_alarmed (n : Nat) : s.alarmed.slot n = s.evacuated.slot n :=
  congrArg (fun r => r.slots.getD n Slot.initial) (alarmed_woken s).register

/-- Every session has ended; calibration and times stay (R139). -/
theorem deck_alarmed (d : DeckId) : (s.alarmed.deck d).session = none ∧ (s.alarmed.deck d).cal = (s.deck d).cal ∧
    (s.alarmed.deck d).times = (s.deck d).times := by
  have hdeck : s.evacuated.deck d = { s.deck d with session := none } := (evacuated_ended s).deck d
  refine ⟨((alarmed_woken s).session d).trans ?_, ((alarmed_woken s).cal d).trans ?_,
    ((alarmed_woken s).times d).trans ?_⟩ <;> rw [hdeck]

/-- The notices but EMERGENCY, OVER_STAY and WOKEN stay as they are. -/
theorem notices_alarmed {i : Nat} (hemergency : i ≠ 0) (hstay : i ≠ 11) (hwoken : i ≠ 14) :
    s.alarmed.notices[i]? = s.notices[i]? := by
  have hkept : (s.evacuated.wakeSource .emergency).notices[i]? = s.notices[i]? :=
    ((alarmed_woken s).notices i hwoken).trans ((evacuated_ended s).notices i hstay)
  rw [State.alarmed, getElem?_raise, hkept]
  simp [NoticeKind.order, Ne.symm hemergency]

/-- EMERGENCY is noted (R143). -/
theorem notice_alarmed_emergency {l : NoticeLine} (hl : s.notices[0]? = some l) (henable : l.enable = true) :
    s.alarmed.notices[0]? = some { l with detail := some .nothing } := by
  have hkept : (s.evacuated.wakeSource .emergency).notices[0]? = s.notices[0]? :=
    ((alarmed_woken s).notices 0 (by decide)).trans ((evacuated_ended s).notices 0 (by decide))
  rw [State.alarmed, getElem?_raise, hkept, hl, Option.map_some, take_enabled henable]
  rfl

variable {s}

/-- A yard that is not in quiet running is not woken (R147). -/
theorem alarmed_of_awake (hq : s.service.quiet = false) : s.alarmed = s.evacuated.raise .emergency .nothing := by
  have hservice : s.evacuated.service.quiet = false := by rw [(evacuated_ended s).service]; exact hq
  rw [State.alarmed, State.wakeSource, hservice]
  rfl

/-- A yard in quiet running is woken (R147, R148). -/
theorem alarmed_of_quiet (hq : s.service.quiet = true) :
    s.alarmed = (s.evacuated.wakeYard .emergency).raise .emergency .nothing := by
  have hservice : s.evacuated.service.quiet = true := by rw [(evacuated_ended s).service]; exact hq
  rw [State.alarmed, State.wakeSource, if_pos hservice]

theorem alarmed_awake (hq : s.service.quiet = false) : (∀ d, s.alarmed.deck d = { s.deck d with session := none }) ∧
    s.alarmed.service = s.service ∧ s.alarmed.notices[14]? = s.notices[14]? := by
  rw [alarmed_of_awake hq]
  refine ⟨(evacuated_ended s).deck, (evacuated_ended s).service, ?_⟩
  rw [getElem?_raise, (evacuated_ended s).notices 14 (by decide)]
  simp [NoticeKind.order, State.forcedOpen]

theorem alarmed_quiet (hq : s.service.quiet = true) :
    s.alarmed.service = { s.service with quiet := false, wake := some .emergency } ∧
    (∀ d, s.alarmed.deck d = Deck.awake { s.deck d with session := none } s.now) ∧
    ∀ l, s.notices[14]? = some l → l.enable = true →
      s.alarmed.notices[14]? = some { l with detail := some (.wake .emergency) } := by
  have hservice : s.evacuated.service = s.service := (evacuated_ended s).service
  have hnow : s.evacuated.now = s.now := (evacuated_ended s).now
  rw [alarmed_of_quiet hq]
  refine ⟨?_, fun d => ?_, fun l hl henable => ?_⟩
  · rw [wakeYard_eq, ← hservice]
    rfl
  · have hdeck : s.evacuated.deck d = { s.deck d with session := none } := (evacuated_ended s).deck d
    rw [← hdeck, ← hnow]
    exact wakeYard_deck s.evacuated .emergency d
  · have hline : s.evacuated.notices[14]? = some l := ((evacuated_ended s).notices 14 (by decide)).trans hl
    rw [wakeYard_eq, getElem?_raise, getElem?_raise]
    simp only [hline, NoticeKind.order, Option.map_some, if_true, take_enabled henable]
    rfl

/-- What the setting of the latch makes of the visits in progress (R46, R63, R139). -/
theorem slots_alarmed (h : SessionDeckLaw s) (hp : s.powered = true) (n : Nat) :
    (s.visit n = none → s.alarmed.slot n = s.slot n) ∧ ∀ v, s.visit n = some v →
      (∀ d, v.sessionDeck = some d → s.alarmed.slot n = (s.slot n).undone s.service) ∧
      (v.sessionDeck = none → s.alarmed.slot n = s.slot n) := by
  rw [slot_alarmed]
  have hkept (hself : (s.slot n).undone s.service = s.slot n) : s.evacuated.slot n = s.slot n :=
    (evacuated_ended s).kept n hself
  refine ⟨fun hnone => hkept (slot_undone_of_none hnone _), fun v hv => ⟨fun d hd => ?_, fun hdeck =>
    hkept (slot_undone_of_sessionDeck hv hdeck _)⟩⟩
  have hopen (e : DeckId) : s.forcedOpen.openSlot e = some n ↔ v.sessionDeck = some e := openSlot_iff h hp hv e
  refine (evacuated_ended s).undone n d ((hopen d).2 hd) fun e he => ?_
  exact Option.some.inj (((hopen e).1 he).symm.trans hd)

end Alarm

/-! ### The latch released (R106, R118, R141) -/

/-- The release lowering by the barrier's state (R106). -/
theorem releaseLower_eq (k : Gate) (now : Nat) : k.releaseLower now = match k.barrier with
    | .forced => { k with barrier := .up }.lowerRequest now .release
    | .raising p o due true => { k with barrier := .raising p o due false, request := some ⟨.lower, .release⟩ }
    | .fault => k
    | _ => k.lowerRequest now .release := by
  unfold Gate.releaseLower
  cases k.barrier with
  | raising p o due forced => cases forced <;> rfl
  | down | up | lowering | forced | fault => rfl

theorem releaseLower_fault {k : Gate} {now : Nat} (h : (k.releaseLower now).barrier = .fault) : k.barrier = .fault := by
  rw [releaseLower_eq] at h
  split at h
  · exact absurd (lowerRequest_fault h) nofun
  · exact absurd h nofun
  · exact h
  · exact lowerRequest_fault h

theorem lowerRequest_waiting (k : Gate) (now : Nat) (o : Origin) : (k.lowerRequest now o).waiting = k.waiting := by
  rw [lowerRequest_eq]
  split
  case h_2 => split <;> rfl
  case h_3 => split <;> rfl
  all_goals rfl

theorem releaseLower_waiting (k : Gate) (now : Nat) : (k.releaseLower now).waiting = k.waiting := by
  rw [releaseLower_eq]
  split
  · exact lowerRequest_waiting _ _ _
  · rfl
  · rfl
  · exact lowerRequest_waiting _ _ _

/-- A deck without waiting calls has none to offer (R118). -/
theorem offer_of_none {s : State} {d : DeckId} (h : ∀ g, (s.gate g).waiting = none) : s.offer d = s := by
  have hone (g : GateId) : s.offerOne g = s := by
    unfold State.offerOne
    rw [h g]
  unfold State.offer
  dsimp only
  rw [hone, hone, ite_self, ite_self]

/-- The release of the latch in a yard without sessions and waiting calls: the release lowering at every gate (R106). -/
theorem releaseLatch_eq {s : State} (hs : s.vacant) (hw : ∀ g, (s.gate g).waiting = none) : s.releaseLatch = { s with
    emergency := { s.emergency with latch := false }
    gates := ⟨s.gates.g1R.releaseLower s.now, s.gates.g1Y.releaseLower s.now, s.gates.g2R.releaseLower s.now,
      s.gates.g2Y.releaseLower s.now⟩ } := by
  have hvacant : State.vacant { s with emergency := { s.emergency with latch := false } } := hs
  have hlowered := eachGate_replace (f := fun x g => x.gateEvent g fun k => k.releaseLower x.now) (P := State.vacant)
    (fun now k => k.releaseLower now) (fun _ _ _ h => h)
    (fun x g hx => gateEvent_vacant (hx _) releaseLower_fault) hvacant
  unfold State.releaseLatch
  dsimp only
  rw [hlowered, State.eachDeck]
  have hnone (g : GateId) : (State.gate { s with
      emergency := { s.emergency with latch := false }
      gates := ⟨s.gates.g1R.releaseLower s.now, s.gates.g1Y.releaseLower s.now, s.gates.g2R.releaseLower s.now,
        s.gates.g2Y.releaseLower s.now⟩ } g).waiting = none := by
    rw [← hw g]
    cases g <;> exact releaseLower_waiting _ _
  rw [offer_of_none hnone, offer_of_none hnone]

/-- EMERGENCY_RELEASE by its checks (R141). -/
theorem exec_emergencyRelease {s : State} (h : s.listening) : exec .emergencyRelease s = .next (
    if s.emergency.latch = false ∨ s.emergency.input = true then s.answered Code.emergencyRelease .wrongState
    else s.releaseLatch.answered Code.emergencyRelease .done (.latch s.releaseLatch.emergency.latch)) := by
  change request Code.emergencyRelease _ s = _
  rw [request_performed _ _ s h]
  cases s.emergency.latch with
  | false => rfl
  | true => cases s.emergency.input <;> rfl

/-- Settles O44: the input by `exec_emergencyInputChange`, the yard at the setting by the lemmas about `State.alarmed`,
the release by `releaseLatch_eq`. -/
theorem emergencySetsAndReleases : Obligations.EmergencySetsAndReleases := by
  refine ⟨fun s hp => ⟨fun active => ⟨fun hsame => ?_, fun hne hfree => ?_⟩, fun he hlaw => ?_⟩, fun s h hlatch => ?_⟩
  · rw [exec_emergencyInputChange hp, if_pos hsame]
  · have hidle : ¬ (active && !s.emergency.latch) = true := by
      rcases hfree with hfree | hfree <;> simp [hfree]
    rw [exec_emergencyInputChange hp, if_neg hne, if_neg hidle]
  · have hkept := alarmed_woken s
    have hended := evacuated_ended s
    refine ⟨s.alarmed, exec_emergencyInputChange_set hp he, hkept.emergency.trans hended.emergency, gate_alarmed s,
      deck_alarmed s, fun n => ⟨(slots_alarmed hlaw hp n).1, fun v hv => ⟨fun d hst => ?_, fun d w hst => ?_,
      ((slots_alarmed hlaw hp n).2 v hv).2⟩⟩, alarmed_awake, fun hq => ?_, fun l hl => notice_alarmed_emergency s hl,
      notices_alarmed s (by decide) (by decide) (by decide), notices_alarmed s (by decide) (by decide) (by decide),
      hkept.vehicles.trans hended.vehicles, hkept.kinds.trans hended.kinds, hkept.printing.trans hended.printing,
      hkept.link.trans hended.link, hkept.now.trans hended.now⟩
    · have hdeck : v.sessionDeck = some d := by simp only [Visit.sessionDeck, hst]
      rw [((slots_alarmed hlaw hp n).2 v hv).1 d hdeck, slot_undone_arriving hv hst]
    · have hdeck : v.sessionDeck = some d := by simp only [Visit.sessionDeck, hst]
      rw [((slots_alarmed hlaw hp n).2 v hv).1 d hdeck, slot_undone_departing hv hst]
    · obtain ⟨hservice, hdeck, hnotice⟩ := alarmed_quiet hq
      exact ⟨hservice, fun d => (hdeck d).trans (awake_eq _ _), hnotice⟩
  · intro lowered
    rw [exec_emergencyRelease h]
    split
    · rfl
    · next hset =>
      obtain ⟨hlatched, -⟩ := not_or.1 hset
      obtain ⟨hvacant, hwaiting⟩ := hlatch (Bool.eq_true_of_not_eq_false hlatched)
      have hlowered (k : Gate) : k.releaseLower s.now = lowered k := releaseLower_eq k s.now
      rw [releaseLatch_eq hvacant hwaiting]
      simp only [hlowered]

end Sys2Proof.Machine
end

section
/-! PROOFS. The session deck (R113): the slot that each session has opened and the deck that each visit names, through
the register, the print bus, the calls, the sessions, the cycles, the emergency and the resets. -/

namespace Sys2Proof.Machine

variable {s t u : State}

/-! ### The law in two functions -/

/-- The session deck that the visit of a slot names (R42). -/
def State.slotDeck (s : State) (n : Nat) : Option DeckId := (s.visit n).bind Visit.sessionDeck

/-- The slot of a session whose visit is not yet settled (R113). -/
def Serving.openSlot (x : Serving) : Option Nat :=
  if x.stage = .called ∨ x.stage = .boarding ∨ x.stage = .onDeck then some x.slot else none

/-- Sessions and visits name one another: the slot that names a deck is the one its session has opened (R113). -/
def DecksNamed (s : State) : Prop := ∀ d n, s.slotDeck n = some d ↔ s.openSlot d = some n

theorem openSlot_eq (s : State) (d : DeckId) : s.openSlot d = (s.deck d).session.bind Serving.openSlot := by
  unfold State.openSlot
  cases (s.deck d).session <;> rfl

theorem openSlot_of_session {d : DeckId} {v : Serving} (h : (s.deck d).session = some v) :
    s.openSlot d = v.openSlot := by
  rw [openSlot_eq, h, Option.bind_some]

theorem openSlot_vacant {d : DeckId} (h : (s.deck d).session = none) : s.openSlot d = none := by
  rw [openSlot_eq, h, Option.bind_none]

theorem slotDeck_of_visit {n : Nat} {v : Visit} (h : s.visit n = some v) : s.slotDeck n = v.sessionDeck := by
  rw [State.slotDeck, h, Option.bind_some]

theorem slotDeck_free {n : Nat} (h : s.visit n = none) : s.slotDeck n = none := by
  rw [State.slotDeck, h, Option.bind_none]

/-- The law of the session deck holds of the part while it is supplied (R113). -/
theorem sessionDeckLaw_iff : SessionDeckLaw s ↔ (s.powered = true → DecksNamed s) := by
  have hslot (d : DeckId) (n : Nat) : s.slotDeck n = some d ↔ ∃ v, s.visit n = some v ∧ v.sessionDeck = some d :=
    Option.bind_eq_some_iff
  simp only [SessionDeckLaw, DecksNamed, hslot, openSlot_eq_some_iff]

/-! ### What leaves the names -/

/-- `t` has the session decks of the visits of `s`, and the open slots of its sessions. -/
structure SameNames (s t : State) : Prop where
  slotDeck : t.slotDeck = s.slotDeck
  openSlot : t.openSlot = s.openSlot

theorem SameNames.refl (s : State) : SameNames s s := ⟨rfl, rfl⟩

theorem SameNames.trans (h : SameNames s t) (k : SameNames t u) : SameNames s u :=
  ⟨k.slotDeck.trans h.slotDeck, k.openSlot.trans h.openSlot⟩

theorem slotDeck_congr (h : t.register.slots = s.register.slots) : t.slotDeck = s.slotDeck := by
  funext n
  rw [State.slotDeck, visit_congr h]
  rfl

theorem openSlot_congr (h : t.decks = s.decks) : t.openSlot = s.openSlot := by
  funext d
  rw [openSlot_eq, openSlot_eq, deck_congr h]

/-- A state with the slots and the decks of another has its names. -/
theorem sameNames_of (hslots : t.register.slots = s.register.slots) (hdecks : t.decks = s.decks) : SameNames s t :=
  ⟨slotDeck_congr hslots, openSlot_congr hdecks⟩

theorem openSlot_setDeck (s : State) (d : DeckId) (k : Deck) :
    (s.setDeck d k).openSlot = Function.update s.openSlot d (k.session.bind Serving.openSlot) := by
  funext e
  rw [openSlot_eq, deck_setDeck, Function.update_apply]
  split
  · rfl
  · exact (openSlot_eq s e).symm

/-- A deck replaced by one of the same session. -/
theorem setDeck_sameNames (s : State) {d : DeckId} {k : Deck} (h : k.session = (s.deck d).session) :
    SameNames s (s.setDeck d k) := by
  refine ⟨rfl, ?_⟩
  rw [openSlot_setDeck, h, ← openSlot_eq, Function.update_eq_self]

theorem DecksNamed.same (hs : DecksNamed s) (h : SameNames s t) : DecksNamed t := by
  intro d n
  rw [h.slotDeck, h.openSlot]
  exact hs d n

/-! ### The writes of a slot -/

theorem slotDeck_writeSlot {n : Nat} (hn : n < s.register.slots.length) (x : Option Visit) :
    (s.writeSlot n x).slotDeck = Function.update s.slotDeck n (x.bind Visit.sessionDeck) := by
  funext m
  rw [Function.update_apply]
  split
  · next hm => rw [hm, State.slotDeck, visit_writeSlot _ _ _ _ hn, if_pos rfl]
  · next hm => rw [State.slotDeck, State.visit, slot_writeSlot_of_ne hm]; rfl

/-- A slot whose visit names the deck that it named before. -/
theorem writeSlot_sameNames {n : Nat} {v : Visit} {x : Option Visit} (hv : s.visit n = some v)
    (hx : x.bind Visit.sessionDeck = v.sessionDeck) : SameNames s (s.writeSlot n x) := by
  refine ⟨?_, rfl⟩
  rw [slotDeck_writeSlot (lt_of_visit hv), hx, ← slotDeck_of_visit hv, Function.update_eq_self]

/-- `t` is `s` but that the visit of slot `n`, if any, names no deck. -/
structure VisitSettled (n : Nat) (s t : State) : Prop where
  slotDeck : t.slotDeck = Function.update s.slotDeck n none
  openSlot : t.openSlot = s.openSlot

theorem VisitSettled.same {n : Nat} (h : VisitSettled n s t) (k : SameNames t u) : VisitSettled n s u :=
  ⟨k.slotDeck.trans h.slotDeck, k.openSlot.trans h.openSlot⟩

/-- A slot that names no deck is settled as it is. -/
theorem visitSettled_self {n : Nat} (h : s.slotDeck n = none) : VisitSettled n s s :=
  ⟨by rw [← h, Function.update_eq_self], rfl⟩

theorem writeSlot_settled {n : Nat} {v : Visit} {x : Option Visit} (hv : s.visit n = some v)
    (hx : x.bind Visit.sessionDeck = none) : VisitSettled n s (s.writeSlot n x) :=
  ⟨by rw [slotDeck_writeSlot (lt_of_visit hv), hx], rfl⟩

/-! ### The visits that name a deck (R42) -/

theorem sessionDeck_onSite {v : Visit} {w : Weighing} (h : v.state = .onSite w) : v.sessionDeck = none := by
  simp only [Visit.sessionDeck, h]

theorem sessionDeck_held {v : Visit} {a b : Weighing} {net : Int} {r : HeldReason} (h : v.state = .held a b net r) :
    v.sessionDeck = none := by
  simp only [Visit.sessionDeck, h]

theorem sessionDeck_closed {v : Visit} {k : Ticket} (h : v.state = .closed k) : v.sessionDeck = none := by
  simp only [Visit.sessionDeck, h]

/-- A visit that is neither ARRIVING nor DEPARTING names no deck (R42). -/
theorem sessionDeck_of_settled {v : Visit} (harriving : ∀ d, v.state = .arriving d → False)
    (hdeparting : ∀ d w, v.state = .departing d w → False) : v.sessionDeck = none := by
  cases hst : v.state with
  | arriving d => exact (harriving d hst).elim
  | departing d w => exact (hdeparting d w hst).elim
  | onSite | held | closed => simp only [Visit.sessionDeck, hst]

theorem sessionDeck_afterTicket (v : Visit) (k : Ticket) : (v.afterTicket k).bind Visit.sessionDeck = none := by
  unfold Visit.afterTicket
  split <;> rfl

/-- A reset leaves no visit with a session deck (R66). -/
theorem sessionDeck_afterReset (sl : Slot) : sl.afterReset.visit.bind Visit.sessionDeck = none := by
  cases hv : sl.visit with
  | none => rw [afterReset_free hv, hv, Option.bind_none]
  | some v =>
    rw [afterReset_visit hv]
    cases hst : v.state with
    | arriving d => rfl
    | departing d w => rfl
    | onSite w => rw [hv]; exact sessionDeck_onSite hst
    | held a b net r => rw [hv]; exact sessionDeck_held hst
    | closed k =>
      dsimp only
      split
      · rfl
      · rw [hv]; exact sessionDeck_closed hst

/-! ### The work of the register (R46 to R51, R63) -/

theorem enterOnSite_settled {n : Nat} {v x : Visit} {w : Weighing} (hv : s.visit n = some v)
    (hx : x.state = .onSite w) : VisitSettled n s (s.enterOnSite n x) := by
  have hflagged : VisitSettled n s (s.writeSlot n (some { x with overStay := true })) :=
    writeSlot_settled hv (sessionDeck_onSite (v := { x with overStay := true }) hx)
  exact keeps_ite (P := VisitSettled n s) (hflagged.same (sameNames_of rfl rfl))
    (writeSlot_settled hv (sessionDeck_onSite hx))

/-- The undo of a visit leaves its slot without a session deck (R46). -/
theorem undo_settled (s : State) (n : Nat) : VisitSettled n s (s.undo n) := by
  unfold State.undo
  split
  · next v hv =>
    split
    · exact (writeSlot_settled hv rfl).same (sameNames_of (by rw [countDown_eq]) (by rw [countDown_eq]))
    · exact enterOnSite_settled hv rfl
    · next harriving hdeparting =>
      exact visitSettled_self ((slotDeck_of_visit hv).trans (sessionDeck_of_settled harriving hdeparting))
  · next hv => exact visitSettled_self (slotDeck_free hv)

theorem checkStay_sameNames (s : State) (n : Nat) : SameNames s (s.checkStay n) := by
  unfold State.checkStay
  split
  · next v hv =>
    split
    · exact (writeSlot_sameNames hv (x := some { v with overStay := true }) rfl).trans (sameNames_of rfl rfl)
    · exact .refl s
  · exact .refl s

theorem checkStays_sameNames (s : State) : SameNames s s.checkStays :=
  List.foldlRecOn (motive := SameNames s) _ _ (.refl s) fun _ h n _ => h.trans (checkStay_sameNames _ n)

/-! ### The Print Controller (R154 to R158) -/

/-- A CLOSED visit's ticket changes, or its slot is freed (R61). -/
theorem writeTicket_sameNames {n : Nat} {v : Visit} {k : Ticket} (hv : s.visit n = some v) (hk : v.state = .closed k)
    (k' : Ticket) : SameNames s (s.writeSlot n (v.afterTicket k')) :=
  writeSlot_sameNames hv ((sessionDeck_afterTicket v k').trans (sessionDeck_closed hk).symm)

theorem writePrinting_sameNames (s : State) (n : Nat) (m : PrintMark) : SameNames s (s.writePrinting n m) := by
  unfold State.writePrinting
  split
  · next v hv =>
    split
    · next k hk => exact keeps_ite (P := SameNames s) (writeTicket_sameNames hv hk _) (.refl s)
    · exact .refl s
  · exact .refl s

theorem startJob_sameNames {n : Nat} {v : Visit} {k : Ticket} (hv : s.visit n = some v) (hk : v.state = .closed k)
    (p : PrinterId) : SameNames s (s.startJob p n v k) :=
  (writeSlot_sameNames hv (x := some (v.withTicket k.started)) (sessionDeck_closed hk).symm).trans
    (sameNames_of rfl rfl)

theorem failJob_sameNames (s : State) (j : Job) (c : FaultCause) : SameNames s (s.failJob j c) :=
  (writePrinting_sameNames s j.slot .unprinted).trans (sameNames_of rfl rfl)

theorem endJob_sameNames (s : State) (j : Job) : SameNames s (s.endJob j) :=
  (writePrinting_sameNames s j.slot .printed).trans (sameNames_of rfl rfl)

theorem arbitrate_sameNames (fuel : Nat) (s : State) : SameNames s (s.arbitrate fuel) := by
  induction fuel generalizing s with
  | zero => exact .refl s
  | succ fuel ih =>
    unfold State.arbitrate
    split
    · next p _ _ =>
      split
      · split
        · next v hv =>
          split
          · next k hk =>
            have hstart := startJob_sameNames hv hk p
            dsimp only
            split
            · exact keeps_ite (P := SameNames s) ((hstart.trans (failJob_sameNames _ _ _)).trans (ih _)) hstart
            · exact hstart
          · exact .refl s
        · exact .refl s
      · exact .refl s
    · exact .refl s

theorem serveBus_sameNames (s : State) : SameNames s s.serveBus := arbitrate_sameNames 3 s

theorem faultJob_sameNames (s : State) (j : Job) (c : FaultCause) : SameNames s (s.faultJob j c) :=
  (failJob_sameNames s j c).trans (serveBus_sameNames _)

theorem finishJob_sameNames (s : State) (j : Job) : SameNames s (s.finishJob j) :=
  (endJob_sameNames s j).trans (serveBus_sameNames _)

theorem byteEnd_sameNames (s : State) (j : Job) : SameNames s (s.byteEnd j) := by
  have hjob (x : Option Job) : SameNames s (s.setJob x) := sameNames_of rfl rfl
  exact keeps_ite (P := SameNames s) (hjob _)
    (keeps_ite (P := SameNames s) ((hjob _).trans (faultJob_sameNames _ _ _)) (hjob _))

theorem strobeEnd_sameNames (s : State) (j : Job) : SameNames s (s.strobeEnd j) :=
  keeps_ite (P := SameNames s) (byteEnd_sameNames s j) (sameNames_of rfl rfl)

/-! ### The close and the capture (R47 to R51) -/

theorem closeRecord_settled {n : Nat} {u : Visit} (hu : s.visit n = some u) (v : Visit) (c : Closing) :
    VisitSettled n s (s.closeRecord n v c) := by
  have hticket : VisitSettled n s (s.writeSlot n (some (v.withTicket (s.ticketOf v c)))) := writeSlot_settled hu rfl
  rw [closeRecord_eq]
  exact hticket.same (sameNames_of rfl rfl)

theorem closeAtCapture_settled {n : Nat} {u : Visit} (hu : s.visit n = some u) (v : Visit) (d : DeckId)
    (a b : Weighing) : VisitSettled n s (s.closeAtCapture n v d a b).1 := by
  unfold State.closeAtCapture
  dsimp only
  split
  · next why _ =>
    have hheld : VisitSettled n s (s.writeSlot n (some { v with state := .held a b (netOf v.direction a b) why })) :=
      writeSlot_settled hu rfl
    exact hheld.same (sameNames_of (by rw [State.hold, countDown_eq]; rfl) (by rw [State.hold, countDown_eq]; rfl))
  · exact (closeRecord_settled hu _ _).same (serveBus_sameNames _)

/-- A capture leaves its slot without a session deck (R47, R48). -/
theorem capture_settled (s : State) (n : Nat) (d : DeckId) (w : Weighing) :
    VisitSettled n s (s.capture n d w).1 := by
  unfold State.capture
  split
  · next v hv =>
    split
    · split
      · exact closeAtCapture_settled hv _ _ _ _
      · exact enterOnSite_settled hv rfl
    · exact closeAtCapture_settled hv _ _ _ _
    · next harriving hdeparting =>
      exact visitSettled_self ((slotDeck_of_visit hv).trans (sessionDeck_of_settled harriving hdeparting))
  · next hv => exact visitSettled_self (slotDeck_free hv)

/-! ### The sessions -/

/-- `t` has the visits of `s`, and at deck `d` no session that has a visit to settle. -/
structure SessionSettled (d : DeckId) (s t : State) : Prop where
  slotDeck : t.slotDeck = s.slotDeck
  openSlot : t.openSlot = Function.update s.openSlot d none

/-- A session replaced, with the gates of its deck, by one that has settled its visit. -/
theorem setSession_settled {d : DeckId} {x : Option Serving} (h : SameNames s t) (hx : x.bind Serving.openSlot = none) :
    SessionSettled d s (t.setSession d x) := by
  refine ⟨h.slotDeck, ?_⟩
  rw [← h.openSlot, ← hx]
  exact openSlot_setDeck t d _

theorem enterReleased_settled (s : State) (d : DeckId) (v : Serving) : SessionSettled d s (s.enterReleased d v) := by
  refine setSession_settled (sameNames_of rfl rfl) ?_
  dsimp only [Option.bind_some, Serving.openSlot]
  split <;> rfl

theorem enterClearing_settled (s : State) (d : DeckId) (v : Serving) : SessionSettled d s (s.enterClearing d v) :=
  setSession_settled (sameNames_of rfl rfl) rfl

theorem vacate_settled (s : State) (d : DeckId) : SessionSettled d s (s.vacate d) :=
  setSession_settled (sameNames_of rfl rfl) rfl

/-- A session whose visit is settled goes on, or ends. -/
theorem DecksNamed.goOn {d : DeckId} (hs : DecksNamed s) (hopen : s.openSlot d = none) (h : SessionSettled d s t) :
    DecksNamed t :=
  hs.same ⟨h.slotDeck, by rw [h.openSlot, ← hopen, Function.update_eq_self]⟩

/-- A session and its visit are settled together: neither names the other any more, and no other slot or session is
concerned. -/
theorem DecksNamed.settle {d : DeckId} {n : Nat} (hs : DecksNamed s) (hopen : s.openSlot d = some n)
    (hvisit : VisitSettled n s t) (hsession : SessionSettled d t u) : DecksNamed u := by
  intro e m
  rw [hsession.slotDeck, hvisit.slotDeck, hsession.openSlot, hvisit.openSlot, Function.update_apply,
    Function.update_apply]
  have hnames := hs e m
  have hnamed := (hs d n).2 hopen
  grind

/-- A session replaced by one with the same open slot. -/
theorem DecksNamed.setSession {d : DeckId} {x : Option Serving} (hs : DecksNamed s)
    (hx : x.bind Serving.openSlot = s.openSlot d) : DecksNamed (s.setSession d x) :=
  hs.same ⟨rfl, (openSlot_setDeck s d _).trans (by rw [hx, Function.update_eq_self])⟩

/-! ### Calls and offers (R115 to R121) -/

/-- A call taken: a slot that named no deck names the deck of the gate, whose session opens it (R121). -/
theorem DecksNamed.setUpSession {d : DeckId} {n : Nat} (hs : DecksNamed s) (hvacant : s.openSlot d = none)
    (hfree : s.slotDeck n = none) (hslot : t.slotDeck = Function.update s.slotDeck n (some d))
    (hopen : t.openSlot = s.openSlot) (heading : Heading) : DecksNamed (t.setUpSession d heading n) := by
  have hset : (t.setUpSession d heading n).openSlot = Function.update s.openSlot d (some n) := by
    rw [← hopen]
    refine (openSlot_setDeck _ d _).trans (congrArg (Function.update _ d) (if_pos ?_))
    dsimp only
    cases (t.gate _).occupied
    · exact .inl rfl
    · exact .inr (.inl rfl)
  have hvisits : (t.setUpSession d heading n).slotDeck = Function.update s.slotDeck n (some d) := hslot
  intro e m
  rw [hset, hvisits, Function.update_apply, Function.update_apply]
  have hnames := hs e m
  grind

/-- An open makes its slot name the deck (R45). -/
theorem slotDeck_openIn {n : Nat} (hn : s.lowestFree = some n) (o : Opening) (d : DeckId) :
    (s.openIn n o d).slotDeck = Function.update s.slotDeck n (some d) := by
  have hlt : n < s.register.slots.length := (List.findIdx?_eq_some_iff_getElem.1 hn).1
  have hopened : (s.openIn n o d).slotDeck = (s.writeSlot n (some (o.visit d s.service.clock))).slotDeck := by
    refine slotDeck_congr ?_
    unfold State.openIn
    rw [countUp_eq]
    dsimp only
    split <;> rfl
  exact hopened.trans (slotDeck_writeSlot hlt _)

/-- An outbound call that passes its checks is for an ON_SITE visit (R120). -/
theorem onSite_of_outboundCheck {f : CallForm} {n : Nat} (h : s.outboundCheck f = .ok n) :
    ∃ v w, s.visit n = some v ∧ v.state = .onSite w := by
  have hjudged (m : Nat) (h : s.outboundCheck (.slot m) = .ok n) : ∃ v w, s.visit n = some v ∧ v.state = .onSite w := by
    cases hv : s.visit m with
    | none => simp only [State.outboundCheck, name_of_free hv, reduceCtorEq] at h
    | some v =>
      cases hst : v.state with
      | onSite w =>
        simp only [State.outboundCheck, name_of_visit hv, hst, VisitState.name, Except.ok.injEq] at h
        exact ⟨v, w, h ▸ hv, hst⟩
      | arriving | departing | held | closed =>
        simp only [State.outboundCheck, name_of_visit hv, hst, VisitState.name, reduceCtorEq] at h
  cases f with
  | tag k =>
    cases hfound : s.findSlot (Visit.openTag k) with
    | none =>
      rw [outboundCheck_tag_none hfound] at h
      cases h
    | some m => exact hjudged m (outboundCheck_tag hfound ▸ h)
  | slot m => exact hjudged m h
  | plate => cases h

/-- A depart makes its slot name the deck (R46). -/
theorem slotDeck_depart {n : Nat} {v : Visit} {w : Weighing} (hv : s.visit n = some v) (hw : v.state = .onSite w)
    (d : DeckId) : (s.depart n d).slotDeck = Function.update s.slotDeck n (some d) := by
  have hdepart : s.depart n d = s.writeSlot n (some { v with state := .departing d w }) := by
    simp only [State.depart, hv, hw]
  rw [hdepart]
  exact slotDeck_writeSlot (lt_of_visit hv) _

theorem DecksNamed.takeCall {g : GateId} (hs : DecksNamed s) (hvacant : s.openSlot g.deck = none) (f : CallForm) :
    DecksNamed (s.takeCall g f).1 := by
  unfold State.takeCall
  split
  · split
    · exact hs
    · next o _ =>
      split
      · next n hn =>
        exact hs.setUpSession hvacant (slotDeck_free (visit_lowestFree hn)) (slotDeck_openIn hn o _)
          (openSlot_congr (openIn_records s n o g.deck).decks) _
      · exact hs
  · split
    · exact hs
    · next n hn =>
      obtain ⟨v, w, hv, hw⟩ := onSite_of_outboundCheck hn
      exact hs.setUpSession hvacant ((slotDeck_of_visit hv).trans (sessionDeck_onSite hw)) (slotDeck_depart hv hw _)
        (openSlot_congr (depart_records s n g.deck).decks) _

theorem DecksNamed.judgeCall (hs : DecksNamed s) (g : GateId) (f : CallForm) : DecksNamed (s.judgeCall g f).1 := by
  unfold State.judgeCall
  split
  · exact hs
  · split
    · exact hs
    · next hheld =>
      split
      · exact hs
      · have hvacant : (s.deck g.deck).session = none := by
          rw [callHeld_iff, not_or, not_not] at hheld
          exact hheld.1
        exact hs.takeCall (openSlot_vacant hvacant) f

theorem noteRefusal_sameNames (s : State) (g : GateId) (x : Decision) : SameNames s (s.noteRefusal g x) := by
  unfold State.noteRefusal
  split <;> exact sameNames_of rfl rfl

theorem DecksNamed.arbitrateCall (hs : DecksNamed s) (g : GateId) (f : CallForm) :
    DecksNamed (s.arbitrateCall g f).1 := by
  unfold State.arbitrateCall
  dsimp only
  split
  · exact (hs.judgeCall g f).same (sameNames_of rfl rfl)
  · exact (hs.judgeCall g f).same (noteRefusal_sameNames _ _ _)

theorem DecksNamed.offerOne (hs : DecksNamed s) (g : GateId) : DecksNamed (s.offerOne g) := by
  unfold State.offerOne
  split
  · exact hs
  · next c _ =>
    dsimp only
    split
    · exact hs
    · have hdropped : DecksNamed ((s.judgeCall g c.form).1.dropWaiting g) :=
        (hs.judgeCall g c.form).same (sameNames_of rfl rfl)
      exact hdropped.same (noteRefusal_sameNames _ _ _)

theorem DecksNamed.offer (hs : DecksNamed s) (d : DeckId) : DecksNamed (s.offer d) :=
  keeps_ite (keeps_ite ((hs.offerOne _).offerOne _) (hs.offerOne _)) hs

theorem refuseWaiting_sameNames (s : State) (d : DeckId) : SameNames s (s.refuseWaiting d) := by
  have hone (s : State) (g : GateId) : SameNames s (s.refuseOne g) := by
    unfold State.refuseOne
    split <;> exact sameNames_of rfl rfl
  rw [refuseWaiting_eq_refuseOne]
  exact (hone _ _).trans (hone _ _)

/-! ### The passage of a vehicle (R122 to R131) -/

theorem DecksNamed.captureInto {d : DeckId} {v : Serving} (hs : DecksNamed s) (hv : s.openSlot d = some v.slot)
    (w : Weighing) : DecksNamed (s.captureInto d v w) :=
  hs.settle hv (capture_settled s v.slot d w) (enterReleased_settled _ d _)

/-- The open slot of a session by its state (R113). -/
theorem openSlot_of_stage {d : DeckId} {v : Serving} (h : (s.deck d).session = some v)
    (hstage : v.stage = .called ∨ v.stage = .boarding ∨ v.stage = .onDeck) : s.openSlot d = some v.slot :=
  (openSlot_of_session h).trans (if_pos hstage)

theorem openSlot_of_settled {d : DeckId} {v : Serving} (h : (s.deck d).session = some v)
    (hstage : v.stage = .released ∨ v.stage = .leaving ∨ v.stage = .clearing) : s.openSlot d = none := by
  refine (openSlot_of_session h).trans (if_neg ?_)
  rcases hstage with hstage | hstage | hstage <;> simp [hstage]

theorem DecksNamed.captureTest (hs : DecksNamed s) (d : DeckId) : DecksNamed (s.captureTest d) := by
  unfold State.captureTest
  split
  · next v hv =>
    split
    · next hcap => exact hs.captureInto (openSlot_of_stage hv (.inr (.inr hcap.1))) _
    · exact hs
  · exact hs

theorem DecksNamed.clearingTest {d : DeckId} (hs : DecksNamed s) (hopen : s.openSlot d = none) (v : Serving) :
    DecksNamed (s.clearingTest d v) := by
  have hended := (hs.goOn hopen (vacate_settled s d)).offer d
  exact keeps_ite hended (keeps_ite (hs.goOn hopen (enterReleased_settled s d v)) (keeps_ite hended hs))

theorem DecksNamed.clearWaived {d : DeckId} (hs : DecksNamed s) (hopen : s.openSlot d = none) (v : Serving) :
    DecksNamed (s.clearWaived d v) := by
  have hclearing := enterClearing_settled s d { v with waiver := true }
  exact (hs.goOn hopen hclearing).clearingTest (by rw [hclearing.openSlot, Function.update_self]) _

theorem DecksNamed.sessionBarrier (hs : DecksNamed s) (g : GateId) : DecksNamed (s.sessionBarrier g) := by
  unfold State.sessionBarrier
  split
  · next v hv =>
    split
    · exact hs.captureTest _
    · next hstage => exact keeps_ite (hs.clearingTest (openSlot_of_settled hv (.inr (.inr hstage))) v) hs
    · exact hs
  · exact hs

theorem DecksNamed.sessionLoop (hs : DecksNamed s) (g : GateId) (occupied : Bool) :
    DecksNamed (s.sessionLoop g occupied) := by
  unfold State.sessionLoop
  dsimp only
  split
  · next v hv =>
    have hset (x : Serving) (hx : x.openSlot = v.openSlot) : DecksNamed (s.setSession g.deck (some x)) :=
      hs.setSession (hx.trans (openSlot_of_session hv).symm)
    cases hstage : v.stage with
    | called => exact keeps_ite (hset _ (by simp [Serving.openSlot, hstage])) hs
    | boarding => exact keeps_ite (hset _ (by simp [Serving.openSlot, hstage])) hs
    | onDeck => exact hs.captureTest _
    | released => exact keeps_ite (hset _ (by simp [Serving.openSlot, hstage])) hs
    | leaving =>
      have hopen := openSlot_of_settled hv (.inr (.inl hstage))
      exact keeps_ite (keeps_ite (hs.clearWaived hopen v) (hset _ (by simp [Serving.openSlot, hstage]))) hs
    | clearing =>
      have hopen := openSlot_of_settled hv (.inr (.inr hstage))
      exact keeps_ite (hset _ (by simp [Serving.openSlot, hstage])) (hs.clearingTest hopen v)
  · exact hs

theorem DecksNamed.enterOnDeck {d : DeckId} {v : Serving} (hs : DecksNamed s) (hv : s.openSlot d = some v.slot) :
    DecksNamed (s.enterOnDeck d v) :=
  DecksNamed.setSession (s := (s.setPass (v.entryGate d) false).sendLower (v.entryGate d) .session)
    (hs.same (sameNames_of rfl rfl)) hv.symm

theorem DecksNamed.sessionEvaluation (hs : DecksNamed s) (d : DeckId) : DecksNamed (s.sessionEvaluation d) := by
  unfold State.sessionEvaluation
  dsimp only
  split
  · next v hv =>
    cases hstage : v.stage with
    | boarding =>
      have hopen := openSlot_of_stage hv (.inr (.inl hstage))
      exact keeps_ite (keeps_ite (hs.enterOnDeck hopen) (hs.setSession hopen.symm)) hs
    | onDeck => exact hs.captureTest d
    | leaving =>
      have hopen := openSlot_of_settled hv (.inr (.inl hstage))
      exact keeps_ite (keeps_ite (hs.goOn hopen (enterReleased_settled s d v))
        (hs.goOn hopen (enterClearing_settled s d v))) hs
    | clearing => exact hs.clearingTest (openSlot_of_settled hv (.inr (.inr hstage))) v
    | called | released => exact hs
  · exact hs

theorem DecksNamed.barrierMoved (hs : DecksNamed s) (g : GateId) (before : Barrier) :
    DecksNamed (s.barrierMoved g before) := by
  have hnoted (c : Prop) [Decidable c] : DecksNamed (if c then s.raise .barrierFault (.gate g) else s) :=
    keeps_ite (hs.same (sameNames_of rfl rfl)) hs
  exact keeps_ite (hnoted _) ((hnoted _).sessionBarrier g)

theorem DecksNamed.gateEvent (hs : DecksNamed s) (g : GateId) (f : Gate → Gate) : DecksNamed (s.gateEvent g f) :=
  DecksNamed.barrierMoved (s := s.setGate g (f (s.gate g))) (hs.same (sameNames_of rfl rfl)) g _

theorem DecksNamed.unlockGate (hs : DecksNamed s) (g : GateId) : DecksNamed (s.unlockGate g) :=
  keeps_ite (keeps_ite ((hs.gateEvent g _).offer _) (hs.gateEvent g _)) hs

theorem DecksNamed.giveUp {d : DeckId} {v : Serving} (hs : DecksNamed s) (hv : s.openSlot d = some v.slot) :
    DecksNamed (s.giveUp d v) :=
  hs.settle hv (undo_settled s v.slot) (enterClearing_settled _ d _)

theorem DecksNamed.cancel {d : DeckId} {v : Serving} (hs : DecksNamed s) (hv : (s.deck d).session = some v)
    (h : s.cancel d v = some t) : DecksNamed t := by
  unfold State.cancel at h
  split at h
  · next hstage =>
    cases h
    exact hs.giveUp (openSlot_of_stage hv (.inl hstage))
  · next hstage =>
    cases h
    exact hs.settle (openSlot_of_stage hv (.inr (.inl hstage))) (undo_settled s v.slot)
      (setSession_settled (sameNames_of rfl rfl) rfl)
  · next hstage =>
    cases h
    exact hs.settle (openSlot_of_stage hv (.inr (.inr hstage))) (undo_settled s v.slot) (enterReleased_settled _ d _)
  all_goals
    next hstage =>
      split at h
      · cases h
        exact hs.clearWaived (openSlot_of_settled hv (by simp [hstage])) v
      · cases h

/-! ### The cycles of a deck (R1, R6) -/

theorem setUnit_sameNames (s : State) (d : DeckId) (w : Weigher) : SameNames s (s.setUnit d w) :=
  setDeck_sameNames s rfl

theorem setCells_sameNames (s : State) (d : DeckId) (c : CellLink) : SameNames s (s.setCells d c) :=
  setDeck_sameNames s rfl

theorem writeEvaluation_sameNames (s : State) (d : DeckId) (r : CalRecord) (warming : Bool) (good : List Good) :
    SameNames s (s.writeEvaluation d r warming good) := by
  rw [writeEvaluation_eq]
  exact keeps_ite (P := SameNames s) ((setUnit_sameNames s d _).trans (sameNames_of rfl rfl)) (setUnit_sameNames s d _)

theorem DecksNamed.evaluate (hs : DecksNamed s) (d : DeckId) (warming : Bool) (good : List Good) :
    DecksNamed (s.evaluate d warming good) := by
  cases hr : (s.deck d).cal.record with
  | none => rwa [evaluate_uncalibrated hr]
  | some r =>
    have hsession := (hs.same (writeEvaluation_sameNames s d r warming good)).sessionEvaluation d
    rw [evaluate_eq hr]
    exact keeps_ite (hsession.offer d) hsession

theorem DecksNamed.pollNext (hs : DecksNamed s) (d : DeckId) (warming : Bool) (todo : List Nat) (good : List Good) :
    DecksNamed (s.pollNext d warming todo good) := by
  cases todo with
  | nil => exact (hs.same (setCells_sameNames s d _)).evaluate d warming good
  | cons i rest => exact hs.same (setCells_sameNames s d _)

theorem DecksNamed.takeSlot (hs : DecksNamed s) (d : DeckId) : DecksNamed (s.takeSlot d) :=
  keeps_ite ((hs.same (setCells_sameNames s d _)).pollNext d _ _ _) (hs.same (setCells_sameNames s d _))

theorem deckFault_sameNames (s : State) (d : DeckId) : SameNames s (s.deckFault d) :=
  (setUnit_sameNames s d _).trans (refuseWaiting_sameNames _ d)

theorem missCell_sameNames (s : State) (d : DeckId) (i : Nat) : SameNames s (s.missCell d i) := by
  unfold State.missCell
  dsimp only
  split
  · exact setCells_sameNames s d _
  · have hfailed : SameNames s ((s.setCell d i ⟨3, true⟩).raise .deckFault (.cell d i)) :=
      (setCells_sameNames s d _).trans (sameNames_of rfl rfl)
    split
    · exact hfailed.trans (deckFault_sameNames _ d)
    · exact hfailed.trans (deckFault_sameNames _ d)
    · exact hfailed

theorem DecksNamed.endExchange (hs : DecksNamed s) (d : DeckId) (c : Cycle) (g : Option Good) :
    DecksNamed (s.endExchange d c g) := by
  cases g with
  | none => exact (hs.same (missCell_sameNames s d c.awaiting)).pollNext d _ _ _
  | some g => exact (hs.same (setCells_sameNames s d _)).pollNext d _ _ _

/-! ### The emergency, the loops and the readers (R98, R110, R138 to R141) -/

theorem wakeYard_sameNames (s : State) (c : WakeCause) : SameNames s (s.wakeYard c) := by
  have hkept := wakeYard_kept s c
  refine ⟨slotDeck_congr (congrArg Register.slots hkept.register), ?_⟩
  funext d
  rw [openSlot_eq, openSlot_eq, hkept.session]

theorem wakeSource_sameNames (s : State) (c : WakeCause) : SameNames s (s.wakeSource c) :=
  keeps_ite (P := SameNames s) (wakeYard_sameNames s c) (.refl s)

theorem DecksNamed.abortSession (hs : DecksNamed s) (d : DeckId) : DecksNamed (s.abortSession d) := by
  rw [abortSession_eq]
  cases hopen : s.openSlot d with
  | none => exact hs.goOn hopen (vacate_settled s d)
  | some n => exact hs.settle hopen (undo_settled s n) (vacate_settled _ d)

theorem DecksNamed.setLatch (hs : DecksNamed s) : DecksNamed s.setLatch := by
  have hset : DecksNamed { s with emergency := { s.emergency with latch := true } } := hs.same (sameNames_of rfl rfl)
  have hraised := eachGate_keeps (f := fun s' g => s'.gateEvent g fun x => x.forcedRaise s'.now)
    (fun _ g h => h.gateEvent g _) hset
  have hended := eachDeck_keeps (P := DecksNamed) (f := fun s d => (s.abortSession d).dropCalls d)
    (fun _ d h => (h.abortSession d).same (sameNames_of rfl rfl)) hraised
  exact (hended.same (wakeSource_sameNames _ .emergency)).same (sameNames_of rfl rfl)

theorem DecksNamed.releaseLatch (hs : DecksNamed s) : DecksNamed s.releaseLatch := by
  have hreleased : DecksNamed { s with emergency := { s.emergency with latch := false } } :=
    hs.same (sameNames_of rfl rfl)
  exact eachDeck_keeps (fun _ d h => h.offer d) (eachGate_keeps (fun _ g h => h.gateEvent g _) hreleased)

theorem DecksNamed.loopEvent (hs : DecksNamed s) (g : GateId) (occupied : Bool) :
    DecksNamed (s.loopEvent g occupied) := by
  have hsession := (hs.gateEvent g fun x => x.loopChange s.now occupied).sessionLoop g occupied
  exact keeps_ite (hsession.same (wakeSource_sameNames _ _)) hsession

theorem DecksNamed.acceptedRead (hs : DecksNamed s) (g : GateId) (k : Tag) : DecksNamed (s.acceptedRead g k) :=
  keeps_ite (keeps_ite ((hs.same (wakeYard_sameNames s (.tag g))).arbitrateCall g _) hs) (hs.arbitrateCall g _)

/-! ### The resets and CLEAR_TABLES (R66, R112, R183) -/

/-- With no visit and no session that names the other side the names agree. -/
theorem decksNamed_of_none (hslot : ∀ n, s.slotDeck n = none) (hopen : ∀ d, s.openSlot d = none) : DecksNamed s := by
  intro d n
  rw [hslot, hopen]
  exact ⟨nofun, nofun⟩

theorem slotDeck_map {f : Slot → Slot} (hf : ∀ sl, (f sl).visit.bind Visit.sessionDeck = none)
    (h : t.register.slots = s.register.slots.map f) (n : Nat) : t.slotDeck n = none := by
  rw [State.slotDeck, Option.bind_eq_none_iff]
  intro v hv
  obtain ⟨sl, hsl, hslv⟩ := visit_eq_some_iff.1 hv
  obtain ⟨old, -, rfl⟩ := List.mem_map.1 (h ▸ List.mem_of_getElem? hsl)
  exact Option.bind_eq_none_iff.1 (hf old) v hslv

/-- A reset leaves every session VACANT and no visit with a session deck (R66, R112). -/
theorem decksNamed_resetBlocks (s : State) (cause : ResetCause) (lost : Bool) (pins : Pins) :
    DecksNamed (s.resetBlocks cause lost pins) := by
  refine decksNamed_of_none (slotDeck_map (s := s) sessionDeck_afterReset rfl) fun d => openSlot_vacant ?_
  have hdeck (k : Deck) (now : Nat) : (k.reset now).session = none := by rw [deckReset_eq]
  cases d <;> exact hdeck _ _

theorem decksNamed_performReset (s : State) (cause : ResetCause) (lost : Bool) (pins : Pins) :
    DecksNamed (s.performReset cause lost pins) := by
  have hserved := (decksNamed_resetBlocks s cause lost pins).same (serveBus_sameNames _)
  exact keeps_ite hserved.setLatch hserved

theorem decksNamed_clearTables (hvacant : s.vacant) : DecksNamed s.clearTables := by
  unfold State.clearTables
  refine eachDeck_keeps (P := DecksNamed) (fun s d h => h.same (refuseWaiting_sameNames s d)) ?_
  refine decksNamed_of_none (slotDeck_map (s := s) (f := fun sl => sl.write none) (fun sl => ?_) rfl) fun d =>
    openSlot_vacant ?_
  · rw [write_visit, Option.bind_none]
  · cases d
    · exact hvacant .d1
    · exact hvacant .d2

end Sys2Proof.Machine
end

section
/-! PROOFS. The law of the session deck through every command and every step (R113): the commands that leave the names
of visits and sessions, and those that may move a session or a visit. -/

namespace Sys2Proof.Machine

variable {s t : State}

/-! ### Commands that leave the names -/

/-- The commands that may move a session or open, settle or free its visit, and those that reset or clear the part. -/
def movesSessions : Instr → Bool
  | .raise _ | .lower _ | .resetGate _ | .unlock _ | .call _ _ _ _ _ _ | .manualCapture _ _ | .cancelSession _
  | .emergencyRelease | .restart _ | .clearTables _ | .powerOn _ | .pinReset _ | .cycleSlot _ | .cellAnswer _ _
  | .answerWindowLapse _ | .loopStateChange _ _ | .limitSwitchChange _ _ _ | .warnTimeLapse _ | .driveLimitLapse _
  | .settleTimeLapse _ | .tagFrame _ _ | .boardTimerLapse _ | .emergencyInputChange _ | .yardClockAdvance
  | .mainSupplyLoss _ => true
  | _ => false

theorem sameNames_linkFree (s : State) : LinkFree (SameNames s) where
  link _ _ h := h.trans (sameNames_of rfl rfl)
  port _ _ h := h.trans (sameNames_of rfl rfl)

theorem request_sameNames {kind : Byte} {f : State → State × Reply} (hf : ∀ s, SameNames s (f s).1)
    (h : request kind f s = .next t) : SameNames s t :=
  request_keeps (sameNames_linkFree s) (fun _ _ hs => hs.trans (hf _)) (.refl s) h

theorem event_sameNames {f : State → State} (hf : ∀ s, SameNames s (f s)) (h : event f s = .next t) : SameNames s t :=
  event_keeps (P := SameNames s) (fun _ _ hs => hs.trans (hf _)) (.refl s) h

theorem visitRequest_sameNames {kind slot : Byte} {expected : Option Revision} {own : State → Nat → State × Reply}
    (hf : ∀ s n, SameNames s (own s n).1)
    (h : request kind (fun s => s.visitRequest slot expected (own s)) s = .next t) : SameNames s t :=
  request_sameNames (fun s => visitRequest_keeps (hf s) (.refl s)) h

theorem accountRequest_sameNames {kind : Byte} {number : AccountNo} {own : State → Account → State × Reply}
    (hf : ∀ s a, SameNames s (own s a).1) (h : request kind (fun s => s.withAccount number (own s)) s = .next t) :
    SameNames s t :=
  request_sameNames (fun s => withAccount_keeps (hf s) (.refl s)) h

theorem jobLapse_sameNames {due : JobPhase → Option Nat} {f : State → Job → State} (hf : ∀ s j, SameNames s (f s j))
    (h : event (fun s => s.jobLapse due f) s = .next t) : SameNames s t :=
  event_sameNames (fun s => jobLapse_keeps (P := SameNames s) (fun _ _ h => h.trans (sameNames_of rfl rfl))
    (fun _ _ h => h.trans (hf _ _)) (.refl s)) h

/-! The requests on visits (R55 to R62, R161, R162): each finds an ON_SITE, HELD or CLOSED visit, which names no
deck, and leaves one that names none. -/

theorem amend_sameNames {n : Nat} {v : Visit} (hv : s.visit n = some v) (kind : Option Byte)
    (plate : Option (List Byte)) (account : Option AccountNo) : SameNames s (s.amend n v kind plate account).1 := by
  unfold State.amend
  split
  · next k p _ _ =>
    have hamended : SameNames s (s.writeSlot n (some (v.amended k p account))) := writeSlot_sameNames hv rfl
    iterate 3
      split
      · exact .refl s
    refine hamended.trans ?_
    unfold State.doneVisit State.moveAccount
    split
    · exact .refl _
    · rw [countDown_eq, countUp_eq]
      exact sameNames_of rfl rfl
  · exact .refl s

theorem execAmend_sameNames {slot : Byte} {e : Option Revision} {k : Option Byte} {p : Option (List Byte)}
    {a : Option AccountNo} (h : execAmend slot e k p a s = .next t) : SameNames s t := by
  refine visitRequest_sameNames (fun s n => ?_) h
  split
  · next v hv =>
    split
    · exact amend_sameNames hv k p a
    · exact .refl s
  · exact .refl s

theorem execCancelVisit_sameNames {slot : Byte} {e : Option Revision} (h : execCancelVisit slot e s = .next t) :
    SameNames s t := by
  refine visitRequest_sameNames (fun s n => ?_) h
  split
  · next v hv =>
    split
    · next w hw =>
      have hfreed : SameNames s (s.writeSlot n none) := writeSlot_sameNames hv (sessionDeck_onSite hw).symm
      rw [countDown_eq]
      exact hfreed.trans (sameNames_of rfl rfl)
    · exact .refl s
  · exact .refl s

/-- A close of a visit that names no deck leaves the names. -/
theorem closeRecord_sameNames {n : Nat} {v : Visit} (hv : s.visit n = some v) (hdeck : v.sessionDeck = none)
    (c : Closing) : SameNames s (s.closeRecord n v c) := by
  obtain ⟨hslot, hopen⟩ := closeRecord_settled hv v c
  refine ⟨?_, hopen⟩
  rw [hslot, ← hdeck, ← slotDeck_of_visit hv, Function.update_eq_self]

theorem resolveClose_sameNames {n : Nat} {v : Visit} (hv : s.visit n = some v) (hdeck : v.sessionDeck = none)
    (a b : Weighing) (target : Byte) (net : Option (BitVec 32)) :
    SameNames s (s.resolveClose n v a b target net).1 := by
  have hclose (c : Closing) : SameNames s ((s.closeRecord n v c).doneAndServe n).1 :=
    (closeRecord_sameNames hv hdeck c).trans (serveBus_sameNames _)
  unfold State.resolveClose
  split
  · exact .refl s
  · split
    · split
      · exact hclose _
      · exact .refl s
    · dsimp only
      split
      · exact .refl s
      · exact hclose _

theorem resolveDiscard_sameNames {n : Nat} {v : Visit} (hv : s.visit n = some v) (hdeck : v.sessionDeck = none) :
    SameNames s (s.resolveDiscard n).1 :=
  writeSlot_sameNames hv hdeck.symm

theorem execResolveClose_sameNames {slot action target : Byte} {e : Option Revision} {net : Option (BitVec 32)}
    (h : execResolveClose slot e action target net s = .next t) : SameNames s t := by
  refine visitRequest_sameNames (fun s n => ?_) h
  split
  · next v hv =>
    split
    · next a b k r hst =>
      split
      · exact resolveClose_sameNames hv (sessionDeck_held hst) a b target net
      · split
        · exact resolveDiscard_sameNames hv (sessionDeck_held hst)
        · exact .refl s
    · exact .refl s
  · exact .refl s

theorem execResolveDiscard_sameNames {slot : Byte} {e : Option Revision}
    (h : execResolveDiscard slot e s = .next t) : SameNames s t := by
  refine visitRequest_sameNames (fun s n => ?_) h
  split
  · next v hv =>
    split
    · next hst => exact resolveDiscard_sameNames hv (sessionDeck_held hst)
    · exact .refl s
  · exact .refl s

theorem execCollect_sameNames {slot : Byte} {e : Option Revision} (h : execCollect slot e s = .next t) :
    SameNames s t := by
  refine visitRequest_sameNames (fun s n => ?_) h
  split
  · next v hv =>
    split
    · next k hk => exact writeTicket_sameNames hv hk _
    · exact .refl s
  · exact .refl s

theorem execRedirect_sameNames {slot target : Byte} {e : Option Revision}
    (h : execRedirect slot e target s = .next t) : SameNames s t := by
  refine visitRequest_sameNames (fun s n => ?_) h
  split
  · next v hv =>
    split
    · next k hk =>
      split
      · exact .refl s
      · split
        · exact .refl s
        · exact (writeTicket_sameNames hv hk _).trans (serveBus_sameNames _)
    · exact .refl s
  · exact .refl s

theorem execReprint_sameNames {slot : Byte} {e : Option Revision} (h : execReprint slot e s = .next t) :
    SameNames s t := by
  refine visitRequest_sameNames (fun s n => ?_) h
  split
  · next v hv =>
    split
    · next k hk =>
      have hmarked : SameNames s (s.writeSlot n (some (v.withTicket { k with mark := .unprinted }))) :=
        writeSlot_sameNames hv (sessionDeck_closed hk).symm
      split
      · exact .refl s
      · split
        · exact .refl s
        · split
          · exact hmarked.trans (serveBus_sameNames _)
          · exact .refl s
    · exact .refl s
  · exact .refl s

/-! The other requests, and the events of cells, calls and the print bus. -/

theorem returnPrinter_sameNames (s : State) (p : PrinterId) : SameNames s (s.returnPrinter p).1 :=
  SameNames.trans (t := s.setPrinterState p .inService) (sameNames_of rfl rfl) (serveBus_sameNames _)

theorem execReleasePrinter_sameNames {printer : Byte} (h : execReleasePrinter printer s = .next t) :
    SameNames s t := by
  refine request_sameNames (fun s => ?_) h
  split
  · exact .refl s
  · split
    · split
      · exact sameNames_of rfl rfl
      · exact .refl s
    · exact returnPrinter_sameNames _ _
    · exact .refl s

theorem execResumePrinter_sameNames {printer : Byte} (h : execResumePrinter printer s = .next t) : SameNames s t := by
  refine request_sameNames (fun s => ?_) h
  split
  · exact .refl s
  · split
    · exact returnPrinter_sameNames _ _
    · exact .refl s

theorem setService_checkStays_sameNames (s : State) (x : Service) : SameNames s (s.setService x).checkStays :=
  SameNames.trans (t := s.setService x) (sameNames_of rfl rfl) (checkStays_sameNames _)

theorem execSetClock_sameNames {seconds : Seconds} (h : execSetClock seconds s = .next t) : SameNames s t := by
  refine request_sameNames (fun s => ?_) h
  dsimp only
  exact setService_checkStays_sameNames s _

theorem execSetSite_sameNames {maxStay tagWake loopWake : Byte} (h : execSetSite maxStay tagWake loopWake s = .next t) :
    SameNames s t := by
  refine request_sameNames (fun s => ?_) h
  dsimp only
  split
  · dsimp only
    exact setService_checkStays_sameNames s _
  · exact .refl s

theorem execRetryCell_sameNames {deck cell : Byte} (h : execRetryCell deck cell s = .next t) : SameNames s t := by
  refine request_sameNames (fun s => ?_) h
  split
  · exact .refl s
  · split
    · exact .refl s
    · split
      · exact .refl s
      · split
        · exact setCells_sameNames s _ _
        · exact .refl s

theorem execZero_sameNames {deck : Byte} (h : execZero deck s = .next t) : SameNames s t := by
  refine request_sameNames (fun s => ?_) h
  split
  · exact .refl s
  · dsimp only
    split
    · exact .refl s
    · iterate 4
        split
        · exact .refl s
      exact setDeck_sameNames s rfl

theorem execCalPut_sameNames {closed : Bool} {body : CalBody} (h : execCalPut closed body s = .next t) :
    SameNames s t := by
  refine request_sameNames (fun s => ?_) h
  dsimp only
  iterate 4
    split
    · exact .refl s
  rw [calibrate_eq]
  exact setDeck_sameNames s rfl

theorem execSetDeckTimers_sameNames {deck : Byte} {board capture wait : BitVec 16}
    (h : execSetDeckTimers deck board capture wait s = .next t) : SameNames s t := by
  refine request_sameNames (fun s => ?_) h
  split
  · exact .refl s
  · exact setDeck_sameNames s rfl

theorem asleep_session (k : Deck) : k.asleep.session = k.session := by
  unfold Deck.asleep
  split <;> rfl

theorem execQuiet_sameNames (h : execQuiet s = .next t) : SameNames s t := by
  have hsleep (u : State) (d : DeckId) : SameNames u (u.enterAsleep d) := by
    rw [enterAsleep_eq]
    exact setDeck_sameNames u (asleep_session _)
  have hboth (u : State) : SameNames u (u.eachDeck State.enterAsleep) :=
    eachDeck_keeps (fun x d hx => hx.trans (hsleep x d)) (.refl u)
  refine request_sameNames (fun s => ?_) h
  split
  · exact .refl s
  · split
    · exact .refl s
    · exact SameNames.trans (t := { s with service := { s.service with quiet := true, wake := none } })
        (sameNames_of rfl rfl) (hboth _)

theorem execWake_sameNames (h : execWake s = .next t) : SameNames s t := by
  refine request_sameNames (fun s => ?_) h
  split
  · exact wakeYard_sameNames _ _
  · exact .refl s

theorem execWarmUpLapse_sameNames {d : DeckId} (h : execWarmUpLapse d s = .next t) : SameNames s t := by
  refine event_sameNames (fun s => ?_) h
  split
  · exact .refl s
  · next due _ =>
    have hwarmed (c : CellLink) (w : Weigher) :
        SameNames s ((s.reach due).setDeck d { (s.reach due).deck d with cells := c, unit := w }) :=
      SameNames.trans (t := s.reach due) (sameNames_of rfl rfl) (setDeck_sameNames _ rfl)
    dsimp only
    split
    · exact keeps_ite (P := SameNames s) ((hwarmed _ _).trans (deckFault_sameNames _ d)) (hwarmed _ _)
    · exact hwarmed _ _

theorem execCallWaitLapse_sameNames {g : GateId} (h : execCallWaitLapse g s = .next t) : SameNames s t := by
  refine event_sameNames (fun s => ?_) h
  split
  · exact sameNames_of rfl rfl
  · exact .refl s

/-- The lapse of the capture timer stops the timer, and the session stays in ON_DECK (R123). -/
theorem execCaptureTimerLapse_sameNames {d : DeckId} (h : execCaptureTimerLapse d s = .next t) : SameNames s t := by
  refine event_sameNames (fun s => ?_) h
  split
  · next v hv =>
    split
    · next due hstage _ =>
      have hstopped : SameNames s ((s.reach due).setSession d (some { v with captureDue := none })) :=
        ⟨rfl, (openSlot_setDeck _ d _).trans ((congrArg (Function.update _ d) (openSlot_of_session hv).symm).trans
          (Function.update_eq_self d s.openSlot))⟩
      exact hstopped.trans (sameNames_of rfl rfl)
    · exact .refl s
  · exact .refl s

theorem execSetupTimeLapse_sameNames (h : execSetupTimeLapse s = .next t) : SameNames s t := by
  refine jobLapse_sameNames (fun s j => ?_) h
  exact sameNames_of rfl rfl

theorem execPbusyChange_sameNames {p : PrinterId} {active : Bool} (h : execPbusyChange p active s = .next t) :
    SameNames s t := by
  refine event_sameNames (fun s => ?_) h
  dsimp only
  split
  · exact .refl s
  · split
    · split
      · split <;> exact sameNames_of rfl rfl
      · exact sameNames_of rfl rfl
    · exact sameNames_of rfl rfl

theorem execPfltChange_sameNames {p : PrinterId} {active : Bool} (h : execPfltChange p active s = .next t) :
    SameNames s t := by
  refine event_sameNames (fun s => ?_) h
  have hpins (x : PrinterPins) : SameNames s (s.setPins p x) := sameNames_of rfl rfl
  dsimp only
  split
  · exact .refl s
  · split
    · exact keeps_ite (P := SameNames s) ((hpins _).trans (faultJob_sameNames _ _ _)) (hpins _)
    · exact hpins _

theorem execPdoneChange_sameNames {p : PrinterId} {active : Bool} (h : execPdoneChange p active s = .next t) :
    SameNames s t := by
  refine event_sameNames (fun s => ?_) h
  have hpins (x : PrinterPins) : SameNames s (s.setPins p x) := sameNames_of rfl rfl
  dsimp only
  split
  · exact .refl s
  · split
    · split
      · exact keeps_ite (P := SameNames s) ((hpins _).trans (finishJob_sameNames _ _)) (hpins _)
      · exact hpins _
    · exact hpins _

/-- Every command but those of `movesSessions` leaves the names of the visits and the sessions. -/
theorem exec_sameNames {c : Instr} (hc : movesSessions c = false) (h : exec c s = .next t) : SameNames s t := by
  cases c with
  | readDeck | calGet | find | getVehicle | getAccount | getKind | readSession | readPrinters | readNotices | status
  | malformedFrame | cutShortFrame => exact query_keeps (sameNames_linkFree s) (.refl s) h
  -- Every outcome of these leaves the slots and the decks as they stand: the split names the outcomes.
  | seek | setTicketNext | putVehicle | dropVehicle | putKind | setGate | lock | readGate | setPrint | holdPrinter
  | takeNotice | dropNotices | setNotice =>
    refine request_sameNames (fun s => ?_) h
    repeat' split
    all_goals exact sameNames_of rfl rfl
  | walk | setTareFromDeck | putAccount =>
    refine request_sameNames (fun s => ?_) h
    dsimp only
    repeat' split
    all_goals exact sameNames_of rfl rfl
  | credit =>
    refine accountRequest_sameNames (fun s a => ?_) h
    exact keeps_ite (P := SameNames s) (sameNames_of rfl rfl) (sameNames_of rfl rfl)
  | stop | release | dropAccount =>
    refine accountRequest_sameNames (fun s a => ?_) h
    repeat' split
    all_goals exact sameNames_of rfl rfl
  | amend => exact execAmend_sameNames h
  | cancelVisit => exact execCancelVisit_sameNames h
  | resolveClose => exact execResolveClose_sameNames h
  | resolveDiscard => exact execResolveDiscard_sameNames h
  | collect => exact execCollect_sameNames h
  | redirect => exact execRedirect_sameNames h
  | reprint => exact execReprint_sameNames h
  | releasePrinter => exact execReleasePrinter_sameNames h
  | resumePrinter => exact execResumePrinter_sameNames h
  | setClock => exact execSetClock_sameNames h
  | setSite => exact execSetSite_sameNames h
  | retryCell => exact execRetryCell_sameNames h
  | zero => exact execZero_sameNames h
  | calPut => exact execCalPut_sameNames h
  | setDeckTimers => exact execSetDeckTimers_sameNames h
  | quiet => exact execQuiet_sameNames h
  | wake => exact execWake_sameNames h
  | overrun | answerRead =>
    exact selection_keeps (sameNames_linkFree s) (fun s _ hs => (sameNames_linkFree _).link s _ hs) (.refl s) h
  | warmUpLapse => exact execWarmUpLapse_sameNames h
  | callWaitLapse => exact execCallWaitLapse_sameNames h
  | captureTimerLapse => exact execCaptureTimerLapse_sameNames h
  | setupTimeLapse => exact execSetupTimeLapse_sameNames h
  | strobeTimeLapse => exact jobLapse_sameNames strobeEnd_sameNames h
  | holdTimeLapse => exact jobLapse_sameNames byteEnd_sameNames h
  | busyWaitLapse | completionLimitLapse => exact jobLapse_sameNames (fun s j => faultJob_sameNames s j _) h
  | pbusyChange => exact execPbusyChange_sameNames h
  | pfltChange => exact execPfltChange_sameNames h
  | pdoneChange => exact execPdoneChange_sameNames h
  | _ => cases hc

/-! ### Commands that may move a session -/

theorem decksNamed_linkFree : LinkFree DecksNamed where
  link _ _ hs := hs.same (sameNames_of rfl rfl)
  port _ _ hs := hs.same (sameNames_of rfl rfl)

theorem DecksNamed.request {kind : Byte} {f : State → State × Reply} (hf : ∀ s, DecksNamed s → DecksNamed (f s).1)
    (hs : DecksNamed s) (h : request kind f s = .next t) : DecksNamed t :=
  request_keeps decksNamed_linkFree (fun s _ => hf s) hs h

theorem DecksNamed.event {f : State → State} (hf : ∀ s, DecksNamed s → DecksNamed (f s)) (hs : DecksNamed s)
    (h : event f s = .next t) : DecksNamed t :=
  event_keeps (fun s _ => hf s) hs h

theorem DecksNamed.hostMove (hs : DecksNamed s) (gate : Byte) (f : Gate → Gate) : DecksNamed (s.hostMove gate f).1 := by
  unfold State.hostMove
  split
  · exact hs
  · split
    · exact hs
    · exact hs.gateEvent _ f

theorem DecksNamed.execResetGate {gate : Byte} (hs : DecksNamed s) (h : execResetGate gate s = .next t) :
    DecksNamed t := by
  refine DecksNamed.request (fun s hs => ?_) hs h
  split
  · exact hs
  · split
    · exact hs
    · split
      · exact hs
      · exact hs.gateEvent _ fun x => x.restore s.now s.emergency.latch

theorem DecksNamed.execUnlock {gate : Byte} (hs : DecksNamed s) (h : execUnlock gate s = .next t) : DecksNamed t := by
  refine DecksNamed.request (fun s hs => ?_) hs h
  split
  · exact hs
  · exact hs.unlockGate _

theorem DecksNamed.execCall {gate form : Byte} {key : List Byte} {account : AccountNo} {kind direction : Byte}
    (hs : DecksNamed s) (h : execCall gate form key account kind direction s = .next t) : DecksNamed t := by
  refine DecksNamed.request (fun s hs => ?_) hs h
  split
  · exact hs
  · split
    · exact hs
    · split
      · exact hs
      · exact hs.arbitrateCall _ _

theorem DecksNamed.execManualCapture {deck : Byte} {weight : BitVec 32} (hs : DecksNamed s)
    (h : execManualCapture deck weight s = .next t) : DecksNamed t := by
  refine DecksNamed.request (fun s hs => ?_) hs h
  split
  · exact hs
  · split
    · exact hs
    · next v hv =>
      split
      · exact hs
      · next hstage =>
        split
        · exact hs
        · exact hs.captureInto (openSlot_of_stage hv (.inr (.inr (not_not.1 hstage)))) _

theorem DecksNamed.execCancelSession {deck : Byte} (hs : DecksNamed s) (h : execCancelSession deck s = .next t) :
    DecksNamed t := by
  refine DecksNamed.request (fun s hs => ?_) hs h
  split
  · exact hs
  · split
    · exact hs
    · next v hv =>
      split
      · next hcancel => exact hs.cancel hv hcancel
      · exact hs

theorem DecksNamed.execEmergencyRelease (hs : DecksNamed s) (h : execEmergencyRelease s = .next t) : DecksNamed t := by
  refine DecksNamed.request (fun s hs => ?_) hs h
  split
  · exact hs
  · split
    · exact hs
    · exact hs.releaseLatch

/-- CLEAR_TABLES is refused while a session goes on (R183). -/
theorem DecksNamed.execClearTables {closed : Bool} (hs : DecksNamed s) (h : execClearTables closed s = .next t) :
    DecksNamed t := by
  refine DecksNamed.request (fun s hs => ?_) hs h
  split
  · exact hs
  · split
    · exact hs
    · next hbusy =>
      simp only [Bool.or_eq_true, not_or, Bool.not_eq_true, Option.isSome_eq_false_iff,
        Option.isNone_iff_eq_none] at hbusy
      obtain ⟨hfirst, hsecond⟩ := hbusy
      exact decksNamed_clearTables fun d => by
        cases d
        · exact hfirst
        · exact hsecond

theorem DecksNamed.execRestart {pins : Pins} (hs : DecksNamed s) (h : execRestart pins s = .next t) : DecksNamed t := by
  refine selection_keeps decksNamed_linkFree (fun s _ hs => ?_) hs h
  split
  · exact hs.same (sameNames_of rfl rfl)
  · exact decksNamed_performReset _ _ _ _

theorem decksNamed_execPowerOn {pins : Pins} (h : execPowerOn pins s = .next t) : DecksNamed t := by
  obtain rfl := Host.Outcome.next.inj h
  exact keeps_ite (decksNamed_performReset _ _ _ _) (decksNamed_performReset _ _ _ _)

theorem DecksNamed.execCycleSlot {d : DeckId} (hs : DecksNamed s) (h : execCycleSlot d s = .next t) :
    DecksNamed t := by
  refine DecksNamed.event (fun s hs => ?_) hs h
  have hpassed : DecksNamed (s.slotPassed d) :=
    hs.same (SameNames.trans (t := s.reach _) (sameNames_of rfl rfl) (setCells_sameNames _ d _))
  exact keeps_ite (hpassed.takeSlot d) hpassed

theorem DecksNamed.execCellAnswer {d : DeckId} {f : List Byte} (hs : DecksNamed s)
    (h : execCellAnswer d f s = .next t) : DecksNamed t := by
  refine DecksNamed.event (fun s hs => ?_) hs h
  split
  · exact hs.endExchange _ _ _
  · exact hs

theorem DecksNamed.execAnswerWindowLapse {d : DeckId} (hs : DecksNamed s) (h : execAnswerWindowLapse d s = .next t) :
    DecksNamed t := by
  refine DecksNamed.event (fun s hs => ?_) hs h
  split
  · exact DecksNamed.endExchange (s := s.reach _) (hs.same (sameNames_of rfl rfl)) d _ _
  · exact hs

theorem DecksNamed.execLoopStateChange {g : GateId} {occupied : Bool} (hs : DecksNamed s)
    (h : execLoopStateChange g occupied s = .next t) : DecksNamed t :=
  DecksNamed.event (fun _ hs => keeps_ite hs (hs.loopEvent g occupied)) hs h

theorem DecksNamed.execLimitSwitchChange {g : GateId} {w : LimitSwitch} {active : Bool} (hs : DecksNamed s)
    (h : execLimitSwitchChange g w active s = .next t) : DecksNamed t :=
  DecksNamed.event (fun _ hs => keeps_ite hs (hs.gateEvent g _)) hs h

theorem DecksNamed.phaseLapse (hs : DecksNamed s) (g : GateId) (p : Phase) (f : Nat → Gate → Gate) :
    DecksNamed (s.phaseLapse g p f) :=
  phaseLapse_keeps (fun _ _ h => h.same (sameNames_of rfl rfl)) (fun _ _ h => h.gateEvent g _) hs

theorem DecksNamed.execTagFrame {g : GateId} {f : List Byte} (hs : DecksNamed s) (h : execTagFrame g f s = .next t) :
    DecksNamed t := by
  refine DecksNamed.event (fun s hs => ?_) hs h
  have hset (x : Gate) : DecksNamed (s.setGate g x) := hs.same (sameNames_of rfl rfl)
  split
  · exact hset _
  · exact keeps_ite ((hset _).acceptedRead g _) (hset _)

theorem DecksNamed.execBoardTimerLapse {d : DeckId} (hs : DecksNamed s) (h : execBoardTimerLapse d s = .next t) :
    DecksNamed t := by
  refine DecksNamed.event (fun s hs => ?_) hs h
  split
  · next v hv =>
    split
    · next due hstage _ =>
      exact DecksNamed.giveUp (s := s.reach due) (hs.same (sameNames_of rfl rfl)) (openSlot_of_stage hv (.inl hstage))
    · exact hs
  · exact hs

theorem DecksNamed.execEmergencyInputChange {active : Bool} (hs : DecksNamed s)
    (h : execEmergencyInputChange active s = .next t) : DecksNamed t := by
  refine DecksNamed.event (fun s hs => ?_) hs h
  have hinput : DecksNamed { s with emergency := { s.emergency with input := active } } :=
    hs.same (sameNames_of rfl rfl)
  exact keeps_ite hs (keeps_ite hinput.setLatch hinput)

theorem tickClock_sameNames (s : State) : SameNames s s.tickClock := sameNames_of rfl rfl

theorem execYardClockAdvance_sameNames (h : execYardClockAdvance s = .next t) : SameNames s t := by
  obtain rfl := Host.Outcome.next.inj h
  have hticked := tickClock_sameNames s
  exact keeps_ite (P := SameNames s) (hticked.trans (checkStays_sameNames _))
    (keeps_ite (P := SameNames s) hticked (.refl s))

/-! ### Every command, every step -/

/-- Every command but the loss of the main supply keeps the names of a part that is supplied (R113). -/
theorem DecksNamed.exec {c : Instr} (hs : DecksNamed s) (hc : ∀ b, c ≠ .mainSupplyLoss b) (h : exec c s = .next t) :
    DecksNamed t := by
  cases hmoves : movesSessions c with
  | false => exact hs.same (exec_sameNames hmoves h)
  | true =>
    cases c with
    | raise | lower => exact DecksNamed.request (fun _ hs => hs.hostMove _ _) hs h
    | resetGate => exact hs.execResetGate h
    | unlock => exact hs.execUnlock h
    | call => exact hs.execCall h
    | manualCapture => exact hs.execManualCapture h
    | cancelSession => exact hs.execCancelSession h
    | emergencyRelease => exact hs.execEmergencyRelease h
    | restart => exact hs.execRestart h
    | clearTables => exact hs.execClearTables h
    | powerOn => exact decksNamed_execPowerOn h
    | pinReset => exact DecksNamed.event (fun _ _ => decksNamed_performReset _ _ _ _) hs h
    | cycleSlot => exact hs.execCycleSlot h
    | cellAnswer => exact hs.execCellAnswer h
    | answerWindowLapse => exact hs.execAnswerWindowLapse h
    | loopStateChange => exact hs.execLoopStateChange h
    | limitSwitchChange => exact hs.execLimitSwitchChange h
    | warnTimeLapse | driveLimitLapse | settleTimeLapse =>
      exact DecksNamed.event (fun _ hs => hs.phaseLapse _ _ _) hs h
    | tagFrame => exact hs.execTagFrame h
    | boardTimerLapse => exact hs.execBoardTimerLapse h
    | emergencyInputChange => exact hs.execEmergencyInputChange h
    | yardClockAdvance => exact hs.same (execYardClockAdvance_sameNames h)
    | mainSupplyLoss b => exact absurd rfl (hc b)
    | _ => cases hmoves

theorem selection_unsupplied {f : State → State} (hs : s.powered = false) (h : selection f s = .next t) : t = s := by
  rw [selection_dark f s hs] at h
  exact (Host.Outcome.next.inj h).symm

theorem event_unsupplied {f : State → State} (hs : s.powered = false) (h : event f s = .next t) : t = s := by
  rw [event_dark f s hs] at h
  exact (Host.Outcome.next.inj h).symm

/-- Without supply no command but POWER_ON brings the part its supply (log 5). -/
theorem exec_unsupplied {c : Instr} (hs : s.powered = false) (hc : ∀ pins, c ≠ .powerOn pins) (h : exec c s = .next t) :
    t.powered = false := by
  cases c with
  | powerOn pins => exact absurd rfl (hc pins)
  | mainSupplyLoss =>
    cases h
    rfl
  | yardClockAdvance =>
    obtain rfl := Host.Outcome.next.inj h
    rw [if_neg (by rw [hs]; exact Bool.false_ne_true)]
    exact keeps_ite (P := fun u : State => u.powered = false) hs hs
  | pinReset | cycleSlot | cellAnswer | answerWindowLapse | warmUpLapse | loopStateChange | limitSwitchChange
  | warnTimeLapse | driveLimitLapse | settleTimeLapse | tagFrame | callWaitLapse | boardTimerLapse | captureTimerLapse
  | emergencyInputChange | setupTimeLapse | strobeTimeLapse | holdTimeLapse | pbusyChange | busyWaitLapse | pfltChange
  | pdoneChange | completionLimitLapse =>
    unfold exec at h
    exact event_unsupplied hs h ▸ hs
  | _ => exact selection_unsupplied hs h ▸ hs

/-- Every command keeps the law of the session deck: of a supplied part by its names, and POWER_ON alone brings the
supply back, with every session VACANT (R112, R113). -/
theorem SessionDeckLaw.exec {c : Instr} (hs : SessionDeckLaw s) (h : exec c s = .next t) : SessionDeckLaw t := by
  rw [sessionDeckLaw_iff] at hs ⊢
  intro hp
  by_cases hloss : ∃ b, c = .mainSupplyLoss b
  · obtain ⟨b, rfl⟩ := hloss
    cases h
    cases hp
  by_cases hon : ∃ pins, c = .powerOn pins
  · obtain ⟨pins, rfl⟩ := hon
    exact decksNamed_execPowerOn h
  cases hsupplied : s.powered with
  | true => exact (hs hsupplied).exec (not_exists.1 hloss) h
  | false =>
    rw [exec_unsupplied hsupplied (not_exists.1 hon) h] at hp
    cases hp

/-- Settles O60: sessions and visits name one another through every command, since a call taken binds a VACANT deck to a
slot that names none, and a capture or an undo settles the visit together with its session. -/
theorem stepKeepsTheSessionDeck : Obligations.StepKeepsTheSessionDeck := by
  intro s t hs h
  exact step_keeps (P := SessionDeckLaw) (fun _ _ hs => hs) (fun _ _ hs => hs) (fun _ _ _ hs h => hs.exec h) hs h

end Sys2Proof.Machine
end

section
/-! PROOFS. CALL: its fields in the order of its checks, and the answer to the arbiter's decision (R114, R115). -/

namespace Sys2Proof.Machine

section Fields

variable {side : GateEnd} {key : List Byte} {account : AccountNo} {kind direction : Byte}

/-- The fields beside the plate that a PLATE call carries lie inside their ranges, at a road gate (R114). -/
def PlateCallInRange (side : GateEnd) (kind direction : Byte) : Prop :=
  side = .road ∧ 1 ≤ kind.toNat ∧ kind.toNat ≤ 32 ∧ (direction = 1 ∨ direction = 2)

theorem directionOf_of_code {c : Byte} (h : c = 1 ∨ c = 2) :
    directionOf c = some (if c = 1 then .deliver else .collect) := by
  rcases h with rfl | rfl <;> rfl

theorem callFormOf_tag : callFormOf side 1 key account kind direction = (keyTag key).map .tag := rfl

theorem callFormOf_plate (h : PlateCallInRange side kind direction) :
    callFormOf side 2 key account kind direction = (plateOf key).map fun p =>
      .plate p (accountOf account) kind.toNat (if direction = 1 then .deliver else .collect) := by
  obtain ⟨rfl, hlow, hhigh, hdirection⟩ := h
  have hkind : kindCodeOf kind = some kind.toNat := if_pos ⟨hlow, hhigh⟩
  simp only [callFormOf, hkind, directionOf_of_code hdirection]
  cases plateOf key <;> rfl

theorem callFormOf_plate_outOfRange (h : ¬ PlateCallInRange side kind direction) :
    callFormOf side 2 key account kind direction = none := by
  unfold callFormOf
  rw [if_neg (by decide), if_pos rfl]
  split
  · next p k d _ hk hd =>
    have hkind := kindCodeOf_ne_none_iff.1 (by rw [hk]; exact nofun)
    have hdirection := directionOf_ne_none_iff.1 (by rw [hd]; exact nofun)
    exact absurd ⟨rfl, hkind.1, hkind.2, hdirection⟩ h
  · rfl

theorem callFormOf_slot : callFormOf side 3 key account kind direction =
    if side = .yard ∧ (byteAt key 0).toNat < 128 then some (.slot (byteAt key 0).toNat) else none := by
  unfold callFormOf keySlot slotOf
  rw [if_neg (by decide), if_neg (by decide), if_pos rfl]
  cases side with
  | road => exact (if_neg fun h => by cases h.1).symm
  | yard =>
    by_cases hslot : (byteAt key 0).toNat < 128
    · simp [hslot]
    · simp [hslot]

theorem callFormOf_unknown {form : Byte} (h1 : form ≠ 1) (h2 : form ≠ 2) (h3 : form ≠ 3) :
    callFormOf side form key account kind direction = none := by
  unfold callFormOf
  rw [if_neg h1, if_neg h2, if_neg h3]

/-- The form that a CALL carries, its fields examined against the end of its gate (R114). -/
theorem callFormOf_eq (form : Byte) : callFormOf side form key account kind direction =
    if form = 1 then (keyTag key).map .tag
    else if form = 2 ∧ side = .road ∧ 1 ≤ kind.toNat ∧ kind.toNat ≤ 32 ∧ (direction = 1 ∨ direction = 2) then
      (plateOf key).map fun p => .plate p (if account = 0 then none else some account) kind.toNat
        (if direction = 1 then .deliver else .collect)
    else if form = 3 ∧ side = .yard ∧ (byteAt key 0).toNat < 128 then some (.slot (byteAt key 0).toNat)
    else none := by
  by_cases h1 : form = 1
  · rw [if_pos h1, h1, callFormOf_tag]
  rw [if_neg h1]
  by_cases h2 : form = 2
  · subst h2
    by_cases hrange : PlateCallInRange side kind direction
    · rw [if_pos ⟨rfl, hrange⟩, callFormOf_plate hrange]
      rfl
    · rw [if_neg fun h => hrange h.2, if_neg fun h => absurd h.1 (by decide), callFormOf_plate_outOfRange hrange]
  rw [if_neg fun h => h2 h.1]
  by_cases h3 : form = 3
  · subst h3
    simp only [callFormOf_slot, true_and]
  · rw [if_neg fun h => h3 h.1, callFormOf_unknown h1 h2 h3]

end Fields

/-- CALL in its order: the gate, the form with its fields, quiet running, then the arbiter (R114, R115). -/
theorem exec_call {s : State} (h : s.listening) (b form : Byte) (key : List Byte) (account : AccountNo)
    (kind direction : Byte) : exec (.call b form key account kind direction) s = .next (
      match gateOf b with
      | none => s.answered Code.call .outOfRange
      | some g => match callFormOf g.side form key account kind direction with
        | none => s.answered Code.call .outOfRange
        | some f =>
          if s.service.quiet = true then s.answered Code.call .wrongState
          else (s.arbitrateCall g f).1.answered Code.call (s.arbitrateCall g f).2.reply.code
            (s.arbitrateCall g f).2.reply.body) := by
  change request Code.call _ s = _
  cases gateOf b with
  | none => exact request_bare h rfl
  | some g =>
    dsimp only
    cases callFormOf g.side form key account kind direction with
    | none => exact request_bare h rfl
    | some f =>
      dsimp only
      by_cases hquiet : s.service.quiet = true
      · rw [if_pos hquiet]
        exact request_bare h (if_pos hquiet)
      · rw [if_neg hquiet]
        refine request_answers h ((if_neg hquiet).trans ?_)
        cases (s.arbitrateCall g f).2 <;> rfl

/-- Settles O37: the examination by `callFormOf_eq`, the answer by the arbiter's decision. -/
theorem callsAreExamined : Obligations.CallsAreExamined := by
  intro s b form key account kind direction h
  rw [exec_call h]
  cases gateOf b with
  | none => rfl
  | some g =>
    dsimp only
    rw [← callFormOf_eq]
    cases callFormOf g.side form key account kind direction with
    | none => rfl
    | some f =>
      dsimp only
      split
      · rfl
      · obtain ⟨t, decision⟩ := s.arbitrateCall g f
        cases decision <;> rfl

end Sys2Proof.Machine
end

section
/-! PROOFS. Waiting calls: the lapse of a wait timer, and the offer of the calls of an able deck (R116, R118). -/

namespace Sys2Proof.Machine

variable {s t u : State} {d : DeckId} {g : GateId} {c : WaitingCall} {f : CallForm}

/-- The wait timer of a waiting call lapses: the call is dropped, with CALL_EXPIRED (R116). -/
theorem exec_callWaitLapse (hp : s.powered = true) (hc : (s.gate g).waiting = some c) :
    exec (.callWaitLapse g) s = .next (({ s with now := max s.now c.due }.setGate g
      { s.gate g with waiting := none }).raise .callExpired (.gate g)) := by
  change execCallWaitLapse g s = _
  rw [execCallWaitLapse, event_powered _ s hp, hc]
  rfl

/-! ### The offer of one call -/

/-- A deck is able to take a call (R118). -/
theorem able_iff : s.able d = true ↔ s.emergency.latch = false ∧ (s.deck d).unit.reading.availability = .ready ∧
    (s.deck d).session = none ∧ (s.deck d).loaded = false := by
  simp only [State.able, Bool.and_eq_true, Bool.not_eq_true', beq_iff_eq, Option.isNone_iff_eq_none, and_assoc]

/-- The notice of a refusal and the drop of the call are independent. -/
theorem noteRefusal_dropWaiting (s : State) (g : GateId) (x : Decision) :
    (s.noteRefusal g x).dropWaiting g = (s.dropWaiting g).noteRefusal g x := by
  unfold State.noteRefusal
  split <;> rfl

theorem offerOne_of_none (h : (s.gate g).waiting = none) : s.offerOne g = s := by
  rw [State.offerOne, h]

/-- A call that the arbiter does not hold (R115). -/
theorem arbitrateCall_decided {x : Decision} (hj : s.judgeCall g f = (t, x)) (hx : x ≠ .waits) :
    s.arbitrateCall g f = (t.noteRefusal g x, x) := by
  rw [State.arbitrateCall, hj]
  cases x with
  | waits => exact absurd rfl hx
  | taken | unavailable | refused => rfl

/-- A waiting call that the arbiter does not hold leaves its gate (R118). -/
theorem offerOne_decided {x : Decision} (h : (s.gate g).waiting = some c) (hj : s.judgeCall g c.form = (t, x))
    (hx : x ≠ .waits) : s.offerOne g = (t.dropWaiting g).noteRefusal g x := by
  rw [State.offerOne, h]
  dsimp only
  rw [hj]
  cases x with
  | waits => exact absurd rfl hx
  | taken | unavailable | refused => rfl

/-- A waiting call offered goes to the arbiter: a held one stays as it is, any other leaves its gate (R118). -/
theorem offerOne_of_waiting (h : (s.gate g).waiting = some c) : s.offerOne g =
    if (s.arbitrateCall g c.form).2 = .waits then s else (s.arbitrateCall g c.form).1.dropWaiting g := by
  rcases hj : s.judgeCall g c.form with ⟨t, x⟩
  by_cases hx : x = .waits
  · subst hx
    simp only [State.offerOne, State.arbitrateCall, h, hj, if_true]
  · rw [offerOne_decided h hj hx, arbitrateCall_decided hj hx, if_neg hx, noteRefusal_dropWaiting]

/-! ### The other gates -/

/-- `t` has every gate of `s` but, it may be, gate `g`. -/
def OtherGatesKept (g : GateId) (s t : State) : Prop := ∀ h, h ≠ g → t.gate h = s.gate h

theorem OtherGatesKept.refl (g : GateId) (s : State) : OtherGatesKept g s s := fun _ _ => rfl

theorem OtherGatesKept.setGate (h : OtherGatesKept g s t) (x : Gate) : OtherGatesKept g s (t.setGate g x) :=
  fun e he => by rw [gate_setGate, if_neg he, h e he]

theorem OtherGatesKept.same (h : OtherGatesKept g s t) (k : u.gates = t.gates) : OtherGatesKept g s u :=
  fun e he => (gate_congr k e).trans (h e he)

theorem takeCall_otherGates (s : State) (g : GateId) (f : CallForm) : OtherGatesKept g s (s.takeCall g f).1 := by
  have hset {v : State} (h : RecordsOnly s v) (x : Gate) : OtherGatesKept g s (v.setGate g x) :=
    ((OtherGatesKept.refl g s).same h.gates).setGate x
  unfold State.takeCall
  split
  · next hside =>
    split
    · exact .refl g s
    · next o _ =>
      split
      · next n _ =>
        have hopened := openIn_records s n o g.deck
        rw [setUpSession_eq hopened n hside (.inl ⟨rfl, rfl, rfl⟩)]
        exact (hset hopened _).same rfl
      · exact .refl g s
  · next hside =>
    split
    · exact .refl g s
    · next n _ =>
      have hdeparted := depart_records s n g.deck
      rw [setUpSession_eq hdeparted n hside (.inr ⟨rfl, rfl, rfl⟩)]
      exact (hset hdeparted _).same rfl

/-- The arbiter judges a call at the gate of the call alone (R115). -/
theorem judgeCall_otherGates (s : State) (g : GateId) (f : CallForm) : OtherGatesKept g s (s.judgeCall g f).1 := by
  unfold State.judgeCall
  split
  · exact .refl g s
  · split
    · exact .refl g s
    · split
      · exact .refl g s
      · exact takeCall_otherGates s g f

theorem offerOne_otherGates (s : State) (g : GateId) : OtherGatesKept g s (s.offerOne g) := by
  unfold State.offerOne
  split
  · exact .refl g s
  · dsimp only
    split
    · exact .refl g s
    · exact ((judgeCall_otherGates s g _).setGate _).same (noteRefusal_gates _ _ _)

/-! ### The order of an offer -/

/-- Both gates of the deck hold a call, and the one at the yard end is the older (R118). -/
def State.yardWaitsLonger (s : State) (d : DeckId) : Prop :=
  ∃ a b, (s.gate (d.gate .road)).waiting = some a ∧ (s.gate (d.gate .yard)).waiting = some b ∧ b.stamp < a.stamp

theorem offer_unable (h : ¬ s.able d = true) : s.offer d = s := if_neg h

/-- The two offers of an able deck, in their order (R118). -/
theorem offer_able (h : s.able d = true) : s.offer d =
    if (s.offerOne (d.gate (s.offerFirst d))).able d = true then
      (s.offerOne (d.gate (s.offerFirst d))).offerOne (d.gate (s.offerFirst d).other)
    else s.offerOne (d.gate (s.offerFirst d)) := if_pos h

theorem offerFirst_yard (h : s.yardWaitsLonger d) : s.offerFirst d = .yard := by
  obtain ⟨a, b, ha, hb, hlt⟩ := h
  simp only [State.offerFirst, ha, hb]
  exact if_neg (by omega)

/-- Unless a call at the yard end is the older, the offer begins at the road end, or has nothing to do there. -/
theorem offerFirst_road (h : ¬ s.yardWaitsLonger d) :
    s.offerFirst d = .road ∨ s.offerFirst d = .yard ∧ (s.gate (d.gate .road)).waiting = none := by
  unfold State.offerFirst
  split
  · next a b ha hb => exact .inl (if_pos (by by_contra hlt; exact h ⟨a, b, ha, hb, by omega⟩))
  · next hroad _ => exact .inr ⟨rfl, hroad⟩
  · exact .inl rfl

/-- An able deck whose older call waits at the yard end offers that one first (R118). -/
theorem offer_yardFirst (hable : s.able d = true) (h : s.yardWaitsLonger d) : s.offer d =
    if (s.offerOne (d.gate .yard)).able d = true then (s.offerOne (d.gate .yard)).offerOne (d.gate .road)
    else s.offerOne (d.gate .yard) := by
  rw [offer_able hable, offerFirst_yard h]
  rfl

/-- Any other able deck offers at the road end first: where no call waits there, the yard end's comes to the same. -/
theorem offer_roadFirst (hable : s.able d = true) (h : ¬ s.yardWaitsLonger d) : s.offer d =
    if (s.offerOne (d.gate .road)).able d = true then (s.offerOne (d.gate .road)).offerOne (d.gate .yard)
    else s.offerOne (d.gate .road) := by
  rw [offer_able hable]
  rcases offerFirst_road h with hfirst | ⟨hfirst, hroad⟩
  · rw [hfirst]
    rfl
  · have hstill : ((s.offerOne (d.gate .yard)).gate (d.gate .road)).waiting = none := by
      rw [offerOne_otherGates s (d.gate .yard) _ (yard_gate_ne_road d).symm, hroad]
    rw [hfirst, offerOne_of_none hroad, if_pos hable]
    change (if _ then (s.offerOne (d.gate .yard)).offerOne (d.gate .road) else _) = _
    rw [offerOne_of_none hstill, ite_self]

/-- Settles O39: the lapse by `exec_callWaitLapse`, the order by `offer_yardFirst` and `offer_roadFirst`, each offer by
`offerOne_of_waiting`. -/
theorem waitingCallsAreOffered : Obligations.WaitingCallsAreOffered := by
  refine ⟨fun s g c hp hc => exec_callWaitLapse hp hc, fun s d => ?_⟩
  intro able offered yardFirst
  have hone (t : State) (g : GateId) : offered t g = t.offerOne g := by
    dsimp only [offered]
    cases hc : (t.gate g).waiting with
    | none => exact (offerOne_of_none hc).symm
    | some c => exact (offerOne_of_waiting hc).symm
  have hable (t : State) : able t ↔ t.able d = true := able_iff.symm
  refine ⟨fun h => offer_unable (mt (hable s).2 h), fun first second hyard hroad h => ?_⟩
  have hoffer : s.offer d =
      if (s.offerOne first).able d = true then (s.offerOne first).offerOne second else s.offerOne first := by
    by_cases horder : yardFirst
    · obtain ⟨rfl, rfl⟩ := hyard horder
      exact offer_yardFirst ((hable s).1 h) horder
    · obtain ⟨rfl, rfl⟩ := hroad horder
      exact offer_roadFirst ((hable s).1 h) horder
  dsimp only
  rw [hone, hone, hable, hoffer]
  exact ⟨fun hstill => if_pos hstill, fun hgone => if_neg hgone⟩

end Sys2Proof.Machine
end

section
/-! PROOFS. The end of a session by CANCEL_SESSION and by its timers (R122, R123, R130, R131). -/

namespace Sys2Proof.Machine

variable {s : State} {d : DeckId} {v : Serving}

/-! ### The sessions that the entries leave -/

theorem enterClearing_session (s : State) (d : DeckId) (v : Serving) : ((s.enterClearing d v).deck d).session =
    some { v with stage := .clearing, clearMark := false, boardDue := none, captureDue := none } := by
  rw [State.enterClearing, deck_setSession, if_pos rfl]

theorem enterReleased_session (s : State) (d : DeckId) (v : Serving) : ((s.enterReleased d v).deck d).session =
    some { v with stage := if (s.gate (v.releaseGate d)).occupied then .leaving else .released, clearMark := false
                  boardDue := none, captureDue := none } := by
  rw [State.enterReleased, deck_setSession, if_pos rfl]

/-! ### The waiver (R131) -/

theorem waivable_iff {k : Deck} : k.waivable = true ↔
    k.unit.reading.availability = .fault ∨ k.unit.reading.status ≠ .valid := by
  simp only [Deck.waivable, Bool.or_eq_true, beq_iff_eq, bne_iff_ne]

/-- A waived session that clears ends at once where its release barrier is DOWN (R129, R131; log 12). -/
theorem clearWaived_eq (s : State) (d : DeckId) (v : Serving) : s.clearWaived d v =
    let t := s.enterClearing d { v with waiver := true }
    if (t.gate (d.gate v.releaseEnd)).barrier = .down then (t.vacate d).offer d else t := by
  dsimp only
  split
  · next hdown =>
    unfold State.clearWaived State.clearingTest
    rw [if_pos]
    exact Bool.and_eq_true_iff.2 ⟨beq_iff_eq.2 hdown, rfl⟩
  · next hup => exact clearingTest_raised hup

/-! ### CANCEL_SESSION (R130, R131) -/

/-- The part after the answer to a CANCEL_SESSION that finds a session (R130). -/
def State.cancelAnswer (s : State) (d : DeckId) (v : Serving) : State :=
  match s.cancel d v with
  | some t => t.answered Code.cancelSession .done (.stage ((t.deck d).session.map (·.stage)))
  | none => s.answered Code.cancelSession .wrongState

theorem exec_cancelSession (h : s.listening) (b : Byte) : exec (.cancelSession b) s = .next (
    match deckOf b with
    | none => s.answered Code.cancelSession .outOfRange
    | some d => match (s.deck d).session with
      | none => s.answered Code.cancelSession .wrongState
      | some v => s.cancelAnswer d v) := by
  change request Code.cancelSession _ s = _
  rw [request_performed _ _ s h]
  cases deckOf b with
  | none => rfl
  | some d =>
    dsimp only
    cases (s.deck d).session with
    | none => rfl
    | some v =>
      dsimp only [State.cancelAnswer]
      cases s.cancel d v <;> rfl

theorem cancelAnswer_called (hst : v.stage = .called) : s.cancelAnswer d v =
    ((s.undo v.slot).enterClearing d v.turned).answered Code.cancelSession .done (.stage (some .clearing)) := by
  have hcancel : s.cancel d v = some (s.giveUp d v) := by rw [State.cancel, hst]
  rw [State.cancelAnswer, hcancel]
  dsimp only [State.giveUp]
  rw [enterClearing_session]
  rfl

/-- The undo leaves the deck: a cancel in BOARDING writes the session into the deck as it was (R130). -/
theorem cancelBoarding_eq (s : State) (d : DeckId) (v : Serving) : s.cancelBoarding d v =
    ((s.undo v.slot).setGate (d.gate v.entryEnd)
      { (s.undo v.slot).gate (d.gate v.entryEnd) with pass := false }).setDeck d { s.deck d with
        session := some { v.turned with stage := .leaving, boardDue := none, captureDue := none } } := by
  rw [← deck_congr (undo_records s v.slot).decks d]
  rfl

theorem cancelAnswer_boarding (hst : v.stage = .boarding) : s.cancelAnswer d v =
    (((s.undo v.slot).setGate (d.gate v.entryEnd)
      { (s.undo v.slot).gate (d.gate v.entryEnd) with pass := false }).setDeck d { s.deck d with
        session := some { v.turned with stage := .leaving, boardDue := none, captureDue := none } }).answered
      Code.cancelSession .done (.stage (some .leaving)) := by
  have hcancel : s.cancel d v = some (s.cancelBoarding d v) := by rw [State.cancel, hst]
  rw [State.cancelAnswer, hcancel]
  dsimp only
  rw [cancelBoarding_eq, deck_setDeck, if_pos rfl]
  rfl

theorem cancelAnswer_onDeck (hst : v.stage = .onDeck) : s.cancelAnswer d v =
    ((s.undo v.slot).enterReleased d v.turned).answered Code.cancelSession .done
      (.stage (some (if (s.gate (d.gate v.entryEnd)).occupied = true then .leaving else .released))) := by
  have hcancel : s.cancel d v = some (s.cancelOnDeck d v) := by rw [State.cancel, hst]
  rw [State.cancelAnswer, hcancel, ← gate_congr (undo_records s v.slot).gates]
  dsimp only [State.cancelOnDeck]
  rw [enterReleased_session]
  rfl

/-- A session that has released its vehicle is cancelled under the waiver alone (R131). -/
theorem cancelAnswer_released (hst : v.stage = .released ∨ v.stage = .leaving ∨ v.stage = .clearing) :
    s.cancelAnswer d v =
      if (s.deck d).unit.reading.availability = .fault ∨ (s.deck d).unit.reading.status ≠ .valid then
        let t := s.enterClearing d { v with waiver := true }
        if (t.gate (d.gate v.releaseEnd)).barrier = .down then
          ((t.vacate d).offer d).answered Code.cancelSession .done
            (.stage ((((t.vacate d).offer d).deck d).session.map (·.stage)))
        else t.answered Code.cancelSession .done (.stage (some .clearing))
      else s.answered Code.cancelSession .wrongState := by
  have hcancel : s.cancel d v = if (s.deck d).waivable then some (s.clearWaived d v) else none := by
    rcases hst with hst | hst | hst <;> rw [State.cancel, hst]
  rw [State.cancelAnswer, hcancel]
  by_cases hwaivable : (s.deck d).waivable = true
  · rw [if_pos hwaivable, if_pos (waivable_iff.1 hwaivable), clearWaived_eq]
    dsimp only
    split
    · rfl
    · rw [enterClearing_session]
      rfl
  · rw [if_neg hwaivable, if_neg (mt waivable_iff.2 hwaivable)]

/-! ### The timers (R122, R123) -/

theorem exec_boardTimerLapse {due : Nat} (hp : s.powered = true) (hv : (s.deck d).session = some v)
    (hst : v.stage = .called) (hdue : v.boardDue = some due) :
    exec (.boardTimerLapse d) s = .next (State.giveUp { s with now := max s.now due } d v) := by
  change execBoardTimerLapse d s = _
  rw [execBoardTimerLapse, event_powered _ s hp, hv]
  dsimp only
  rw [hst, hdue]
  rfl

theorem exec_captureTimerLapse {due : Nat} (hp : s.powered = true) (hv : (s.deck d).session = some v)
    (hst : v.stage = .onDeck) (hdue : v.captureDue = some due) :
    exec (.captureTimerLapse d) s = .next ((State.setSession { s with now := max s.now due } d
      (some { v with captureDue := none })).raise .captureTimeout (.deck d)) := by
  change execCaptureTimerLapse d s = _
  rw [execCaptureTimerLapse, event_powered _ s hp, hv]
  dsimp only
  rw [hst, hdue]
  rfl

/-- Settles O42: the cancel by the stage of the session, the lapses by their equations. -/
theorem sessionsAreCancelledOrTimeOut : Obligations.SessionsAreCancelledOrTimeOut := by
  intro s turned done
  refine ⟨fun h b => ?_, fun d v due hp hv => ⟨exec_boardTimerLapse hp hv, exec_captureTimerLapse hp hv⟩⟩
  rw [exec_cancelSession h]
  cases deckOf b with
  | none => rfl
  | some d =>
    dsimp only
    cases (s.deck d).session with
    | none => rfl
    | some v =>
      dsimp only
      cases hst : v.stage with
      | called => exact congrArg _ (cancelAnswer_called hst)
      | boarding => exact congrArg _ (cancelAnswer_boarding hst)
      | onDeck => exact congrArg _ (cancelAnswer_onDeck hst)
      | released => exact congrArg _ (cancelAnswer_released (.inl hst))
      | leaving => exact congrArg _ (cancelAnswer_released (.inr (.inl hst)))
      | clearing => exact congrArg _ (cancelAnswer_released (.inr (.inr hst)))

end Sys2Proof.Machine
end

section
/-! PROOFS. What a loop's change and an evaluation do to a session, by its stage (R122, R124, R127 to R129, R131). -/

namespace Sys2Proof.Machine

variable {s : State} {d : DeckId} {g : GateId} {v : Serving} {occupied : Bool}

theorem loopOccupied_eq_false_iff : s.loopOccupied d = false ↔
    (s.gate (d.gate .road)).occupied = false ∧ (s.gate (d.gate .yard)).occupied = false := Bool.or_eq_false_iff

/-! ### The capture conditions (R124) -/

/-- A deck weighs steadily between its occupancy threshold and Max: only a deck with a calibration record does. -/
theorem weighsSteadily_iff {k : Deck} : (k.stable = true ∧ k.loaded = true ∧ k.withinMax = true) ↔
    k.unit.reading.status = .valid ∧ ∃ r, k.cal.record = some r ∧ r.stableCount ≤ k.unit.reading.still ∧
      (r.threshold : Int) ≤ k.unit.reading.weight ∧ k.unit.reading.weight ≤ r.max := by
  unfold Deck.stable Deck.loaded Deck.withinMax
  cases k.cal.record with
  | none => simp
  | some r => simp [and_assoc]

/-- The capture conditions of a deck, written out (R124). -/
theorem capturable_iff : s.capturable d = true ↔
    (s.deck d).unit.reading.availability = .ready ∧ (s.deck d).unit.reading.status = .valid ∧
      (s.deck d).unit.reading.current = true ∧
      (∃ r, (s.deck d).cal.record = some r ∧ r.stableCount ≤ (s.deck d).unit.reading.still ∧
        (r.threshold : Int) ≤ (s.deck d).unit.reading.weight ∧ (s.deck d).unit.reading.weight ≤ r.max) ∧
      ((s.gate (d.gate .road)).occupied = false ∧ (s.gate (d.gate .yard)).occupied = false) ∧
      (s.gate (d.gate .road)).barrier = .down ∧ (s.gate (d.gate .yard)).barrier = .down := by
  simp only [State.capturable, State.barriersDown, Bool.and_eq_true, beq_iff_eq, Bool.not_eq_true',
    ← loopOccupied_eq_false_iff]
  constructor
  · rintro ⟨⟨⟨⟨⟨⟨⟨hready, hvalid⟩, hcurrent⟩, hstable⟩, hloaded⟩, hmax⟩, hdown⟩, hloops⟩
    exact ⟨hready, hvalid, hcurrent, (weighsSteadily_iff.1 ⟨hstable, hloaded, hmax⟩).2, hloops, hdown⟩
  · rintro ⟨hready, hvalid, hcurrent, hsteady, hloops, hdown⟩
    obtain ⟨hstable, hloaded, hmax⟩ := weighsSteadily_iff.2 ⟨hvalid, hsteady⟩
    exact ⟨⟨⟨⟨⟨⟨⟨hready, hvalid⟩, hcurrent⟩, hstable⟩, hloaded⟩, hmax⟩, hdown⟩, hloops⟩

theorem captureTest_onDeck (hv : (s.deck d).session = some v) (hst : v.stage = .onDeck) : s.captureTest d =
    if s.capturable d = true then s.captureInto d v (s.deckWeighing d) else s := by
  rw [State.captureTest, hv]
  simp only [hst, true_and]

/-! ### The completion (R129, R131) -/

/-- The session may end: its release barrier is DOWN, and it is waived or the deck is seen to be clear (R129, R131). -/
def State.sessionEnds (s : State) (d : DeckId) (v : Serving) : Prop :=
  (s.gate (d.gate v.releaseEnd)).barrier = .down ∧ (v.waiver = true ∨
    ((s.deck d).unit.reading.status = .valid ∧ (s.deck d).loaded = false ∧
      (s.gate (d.gate .road)).occupied = false ∧ (s.gate (d.gate .yard)).occupied = false))

/-- The vehicle is still on the deck behind the closed release barrier (R129). -/
def State.vehicleStays (s : State) (d : DeckId) (v : Serving) : Prop :=
  (s.gate (d.gate v.releaseEnd)).barrier = .down ∧ v.waiver = false ∧
    (s.deck d).unit.reading.status = .valid ∧ (s.deck d).loaded = true

theorem clearingTest_ends (h : s.sessionEnds d v) : s.clearingTest d v = (s.vacate d).offer d := by
  obtain ⟨hdown, hwhy⟩ := h
  have hrelease : (s.gate (v.releaseGate d)).barrier = .down := hdown
  rcases hwhy with hwaived | ⟨hvalid, hloaded, hloops⟩
  · simp [State.clearingTest, hrelease, hwaived]
  · simp [State.clearingTest, hrelease, hvalid, hloaded, loopOccupied_eq_false_iff.2 hloops]

theorem clearingTest_vehicleStays (h : s.vehicleStays d v) : s.clearingTest d v = s.enterReleased d v := by
  obtain ⟨hdown, hwaived, hvalid, hloaded⟩ := h
  have hrelease : (s.gate (v.releaseGate d)).barrier = .down := hdown
  simp [State.clearingTest, hrelease, hwaived, hvalid, hloaded]

theorem clearingTest_waits (hends : ¬ s.sessionEnds d v) (hstays : ¬ s.vehicleStays d v) : s.clearingTest d v = s := by
  by_cases hdown : (s.gate (v.releaseGate d)).barrier = .down
  · have hwaived : v.waiver = false := Bool.eq_false_of_not_eq_true fun hwaived => hends ⟨hdown, .inl hwaived⟩
    by_cases hvalid : (s.deck d).unit.reading.status = .valid
    · have hloaded : (s.deck d).loaded = false :=
        Bool.eq_false_of_not_eq_true fun hloaded => hstays ⟨hdown, hwaived, hvalid, hloaded⟩
      have hloops : s.loopOccupied d = true := Bool.eq_true_of_not_eq_false fun hloops =>
        hends ⟨hdown, .inr ⟨hvalid, hloaded, loopOccupied_eq_false_iff.1 hloops⟩⟩
      simp [State.clearingTest, hwaived, hloaded, hloops]
    · simp [State.clearingTest, hwaived, hvalid]
  · exact clearingTest_raised hdown

/-- A session already waived that clears (R131; log 12). -/
theorem clearWaived_waived (h : v.waiver = true) : s.clearWaived d v =
    let left := s.enterClearing d v
    if (left.gate (d.gate v.releaseEnd)).barrier = .down then (left.vacate d).offer d else left := by
  have hsame : { v with waiver := true } = v := by rw [← h]
  rw [clearWaived_eq, hsame]

/-! ### The loops (R122, R124, R127 to R129) -/

section Loops

variable (hv : (s.deck g.deck).session = some v)
include hv

theorem sessionLoop_called (hst : v.stage = .called) : s.sessionLoop g occupied =
    if g = g.deck.gate v.entryEnd ∧ occupied = true then
      s.setSession g.deck (some { v with stage := .boarding, clearMark := false, boardDue := none })
    else s := by
  rw [State.sessionLoop, hv]
  dsimp only
  rw [hst]
  exact if_congr (and_congr_left' eq_comm) rfl rfl

theorem sessionLoop_boarding (hst : v.stage = .boarding) : s.sessionLoop g occupied =
    if g = g.deck.gate v.entryEnd then s.setSession g.deck (some { v with clearMark := !occupied }) else s := by
  rw [State.sessionLoop, hv]
  dsimp only
  rw [hst]
  exact if_congr eq_comm rfl rfl

theorem sessionLoop_onDeck (hst : v.stage = .onDeck) : s.sessionLoop g occupied = s.captureTest g.deck := by
  rw [State.sessionLoop, hv]
  dsimp only
  rw [hst]

theorem sessionLoop_released (hst : v.stage = .released) : s.sessionLoop g occupied =
    if g = g.deck.gate v.releaseEnd ∧ occupied = true then
      s.setSession g.deck (some { v with stage := .leaving, clearMark := false })
    else s := by
  rw [State.sessionLoop, hv]
  dsimp only
  rw [hst]
  exact if_congr (and_congr_left' eq_comm) rfl rfl

/-- The vehicle of a waived session that leaves the release loop clears the session (R128, R131). -/
theorem sessionLoop_leaving (hst : v.stage = .leaving) : s.sessionLoop g occupied =
    if g ≠ g.deck.gate v.releaseEnd then s
    else if occupied = true ∨ v.waiver = false then s.setSession g.deck (some { v with clearMark := !occupied })
    else
      let left := s.enterClearing g.deck v
      if (left.gate (g.deck.gate v.releaseEnd)).barrier = .down then (left.vacate g.deck).offer g.deck else left := by
  rw [State.sessionLoop, hv]
  dsimp only
  rw [hst]
  by_cases hg : v.releaseGate g.deck = g
  · have hrelease : ¬ g ≠ g.deck.gate v.releaseEnd := not_not_intro hg.symm
    rw [if_neg hrelease]
    refine (if_pos hg).trans ?_
    by_cases hmark : occupied = true ∨ v.waiver = false
    · have hstays : ¬ (!occupied && v.waiver) = true := by
        rcases hmark with hmark | hmark <;> simp [hmark]
      rw [if_neg hstays, if_pos hmark, ← hst]
    · obtain ⟨hfree, hwaived⟩ := not_or.1 hmark
      have hclears : (!occupied && v.waiver) = true := by simp [hfree, hwaived]
      rw [if_pos hclears, if_neg hmark]
      exact clearWaived_waived (Bool.eq_true_of_not_eq_false hwaived)
  · have hother : g ≠ g.deck.gate v.releaseEnd := fun h => hg h.symm
    rw [if_pos hother]
    exact if_neg hg

theorem sessionLoop_clearing (hst : v.stage = .clearing) : s.sessionLoop g occupied =
    if g = g.deck.gate v.releaseEnd ∧ occupied = true then
      s.setSession g.deck (some { v with stage := .leaving, clearMark := false })
    else s.clearingTest g.deck v := by
  rw [State.sessionLoop, hv]
  dsimp only
  rw [hst]
  exact if_congr (and_congr_left' eq_comm) rfl rfl

end Loops

/-! ### The evaluations (R122, R124, R128, R129) -/

section Evaluations

variable (hv : (s.deck d).session = some v)
include hv

theorem sessionEvaluation_idle (hst : v.stage = .called ∨ v.stage = .released) : s.sessionEvaluation d = s := by
  rw [State.sessionEvaluation, hv]
  dsimp only
  rcases hst with hst | hst <;> rw [hst]

theorem sessionEvaluation_unmarked (hst : v.stage = .boarding ∨ v.stage = .leaving)
    (h : ¬ ((s.deck d).unit.reading.status = .valid ∧ v.clearMark = true)) : s.sessionEvaluation d = s := by
  have hmark : ¬ ((s.deck d).unit.reading.status == .valid && v.clearMark) = true := by
    rwa [Bool.and_eq_true, beq_iff_eq]
  rw [State.sessionEvaluation, hv]
  dsimp only
  rcases hst with hst | hst <;> rw [hst] <;> exact if_neg hmark

theorem sessionEvaluation_boarding (hst : v.stage = .boarding) (hvalid : (s.deck d).unit.reading.status = .valid)
    (hmark : v.clearMark = true) : s.sessionEvaluation d =
      if (s.deck d).loaded = true then s.enterOnDeck d v
      else s.setSession d (some { v with stage := .called, clearMark := false
                                         boardDue := some (s.now + (s.deck d).times.boardTime * 1000000) }) := by
  rw [State.sessionEvaluation, hv]
  dsimp only
  rw [hst, hvalid, hmark]
  rfl

theorem sessionEvaluation_onDeck (hst : v.stage = .onDeck) : s.sessionEvaluation d = s.captureTest d := by
  rw [State.sessionEvaluation, hv]
  dsimp only
  rw [hst]

theorem sessionEvaluation_leaving (hst : v.stage = .leaving) (hvalid : (s.deck d).unit.reading.status = .valid)
    (hmark : v.clearMark = true) : s.sessionEvaluation d =
      if (s.deck d).loaded = true then s.enterReleased d v else s.enterClearing d v := by
  rw [State.sessionEvaluation, hv]
  dsimp only
  rw [hst, hvalid, hmark]
  rfl

theorem sessionEvaluation_clearing (hst : v.stage = .clearing) : s.sessionEvaluation d = s.clearingTest d v := by
  rw [State.sessionEvaluation, hv]
  dsimp only
  rw [hst]

end Evaluations

/-- Settles O43: each loop and evaluation by the stage's equation, then the capture conditions and the completion. -/
theorem sessionsFollowLoopsAndWeights : Obligations.SessionsFollowLoopsAndWeights := by
  intro s d v hv
  have htested (t : State) (ht : t = s.clearingTest d v) : (s.sessionEnds d v → t = (s.vacate d).offer d) ∧
      (s.vehicleStays d v → t = s.enterReleased d v) ∧ (¬ s.sessionEnds d v → ¬ s.vehicleStays d v → t = s) := by
    subst ht
    exact ⟨clearingTest_ends, clearingTest_vehicleStays, clearingTest_waits⟩
  have hcaptures (t : State) (ht : t = s.captureTest d) (hst : v.stage = .onDeck) :
      (s.capturable d = true → t = s.captureInto d v (s.deckWeighing d)) ∧ (¬ s.capturable d = true → t = s) := by
    rw [ht, captureTest_onDeck hv hst]
    exact ⟨fun h => if_pos h, fun h => if_neg h⟩
  rw [capturable_iff] at hcaptures
  refine ⟨?_, ⟨sessionEvaluation_idle hv, sessionEvaluation_unmarked hv, sessionEvaluation_boarding hv,
    fun hst => hcaptures _ (sessionEvaluation_onDeck hv hst) hst, sessionEvaluation_leaving hv,
    fun hst => htested _ (sessionEvaluation_clearing hv hst)⟩, fun _ _ _ => htested _ rfl⟩
  rintro g occupied rfl
  refine ⟨sessionLoop_called hv, sessionLoop_boarding hv, fun hst => hcaptures _ (sessionLoop_onDeck hv hst) hst,
    sessionLoop_released hv, sessionLoop_leaving hv, fun hst hg hocc => ?_, fun hst hother => ?_⟩
  · rw [sessionLoop_clearing hv hst, if_pos ⟨hg, hocc⟩]
    rfl
  · refine htested _ ((sessionLoop_clearing hv hst).trans (if_neg fun h => ?_))
    exact hother.elim (absurd h.1) fun hfree => Bool.false_ne_true (hfree.symm.trans h.2)

end Sys2Proof.Machine
end

section
/-! PROOFS. The waiting call of a gate (R116) through the operations on its channel: none of them touches it. -/

namespace Sys2Proof.Machine

/-! ### Motions and requests (R93 to R97) -/

theorem raiseRequest_waiting (g : Gate) (now : Nat) (o : Origin) : (g.raiseRequest now o).waiting = g.waiting := by
  rw [raiseRequest_eq]
  split
  case h_1 => split <;> rfl
  all_goals rfl

theorem lowerSettle_waiting (g : Gate) (now : Nat) (o : Origin) : (g.lowerSettle now o).waiting = g.waiting := by
  unfold Gate.lowerSettle
  split <;> rfl

theorem lowerDrive_waiting (g : Gate) (now : Nat) (o : Origin) : (g.lowerDrive now o).waiting = g.waiting := by
  unfold Gate.lowerDrive
  split
  · exact lowerSettle_waiting g now o
  · rfl

theorem restUp_waiting (g : Gate) (now : Nat) : (g.restUp now).waiting = g.waiting := by
  rw [restUp_eq]
  split
  · split
    · exact lowerRequest_waiting _ _ _
    · rfl
  · rfl

theorem reachUp_waiting (g : Gate) (now : Nat) (o : Origin) (forced : Bool) :
    (g.reachUp now o forced).waiting = g.waiting := by
  unfold Gate.reachUp Gate.raiseSettle
  split
  · rfl
  · split
    · exact restUp_waiting g now
    · rfl

theorem raiseDrive_waiting (g : Gate) (now : Nat) (o : Origin) (forced : Bool) :
    (g.raiseDrive now o forced).waiting = g.waiting := by
  unfold Gate.raiseDrive
  split
  · exact reachUp_waiting g now o forced
  · rfl

/-! ### Lapses, loop and switches (R93, R97 to R100) -/

theorem warnLapse_waiting (g : Gate) (now : Nat) : (g.warnLapse now).waiting = g.waiting := by
  unfold Gate.warnLapse
  split
  · exact raiseDrive_waiting g now _ _
  · exact lowerDrive_waiting g now _
  · rfl

theorem driveLapse_waiting (g : Gate) : g.driveLapse.waiting = g.waiting := by
  unfold Gate.driveLapse
  split <;> rfl

theorem settleLapse_waiting (g : Gate) (now : Nat) : (g.settleLapse now).waiting = g.waiting := by
  unfold Gate.settleLapse
  split
  · exact restUp_waiting g now
  · rfl
  · rfl

theorem loopChange_waiting (g : Gate) (now : Nat) (occupied : Bool) :
    (g.loopChange now occupied).waiting = g.waiting := by
  unfold Gate.loopChange
  dsimp only
  split
  · exact raiseDrive_waiting _ now _ _
  · exact raiseDrive_waiting _ now _ _
  · exact restUp_waiting _ now
  · rfl

theorem switchChange_waiting (g : Gate) (now : Nat) (w : LimitSwitch) (active : Bool) :
    (g.switchChange now w active).waiting = g.waiting := by
  have hset : (g.setSwitch w active).waiting = g.waiting := by cases w <;> rfl
  unfold Gate.switchChange
  dsimp only
  split
  · exact hset
  · split
    · exact (reachUp_waiting _ now _ _).trans hset
    · exact (lowerSettle_waiting _ now _).trans hset
    · exact hset

/-! ### RESET_GATE, UNLOCK and the reads (R101, R102, R110) -/

theorem restore_waiting (g : Gate) (now : Nat) (latch : Bool) : (g.restore now latch).waiting = g.waiting := by
  unfold Gate.restore
  dsimp only
  split
  · split
    · rfl
    · exact raiseDrive_waiting _ now _ _
  · split
    · split
      · exact restUp_waiting _ now
      · rfl
    · split
      · exact raiseRequest_waiting _ now _
      · rfl

theorem unlock_waiting (g : Gate) (now : Nat) : (g.unlock now).waiting = g.waiting := by
  rw [unlock_eq]
  split
  · exact raiseRequest_waiting _ now _
  · rfl

theorem read_waiting (g : Gate) (now : Nat) (t : Tag) : (g.read now t).1.waiting = g.waiting := by
  unfold Gate.read
  split
  · split <;> rfl
  · rfl

end Sys2Proof.Machine
end

section
/-! PROOFS. The yard under the emergency latch (R139): a state that stands still stays so through every operation on
records, gates, calls, sessions and cycles, since a call finds the deck barred and an event finds no session. -/

namespace Sys2Proof.Machine

variable {s t u : State}

/-- The yard stands still under the latch: SET, both sessions VACANT and no call waiting (R139). -/
structure StandsStill (s : State) : Prop where
  latch : s.emergency.latch = true
  vacant : s.vacant
  uncalled : ∀ g, (s.gate g).waiting = none

/-- The law of the latch: a yard with the latch SET stands still (R139). -/
theorem latchLaw_iff : LatchLaw s ↔ (s.emergency.latch = true → StandsStill s) :=
  ⟨fun hs hl => ⟨hl, (hs hl).1, (hs hl).2⟩, fun hs hl => ⟨(hs hl).vacant, (hs hl).uncalled⟩⟩

/-- `t` has the latch of `s`, and stands still where `s` does. -/
structure KeepsStill (s t : State) : Prop where
  latch : t.emergency.latch = s.emergency.latch
  still : StandsStill s → StandsStill t

theorem KeepsStill.refl (s : State) : KeepsStill s s := ⟨rfl, id⟩

theorem KeepsStill.trans (h : KeepsStill s t) (k : KeepsStill t u) : KeepsStill s u :=
  ⟨k.latch.trans h.latch, k.still ∘ h.still⟩

theorem LatchLaw.keep (hs : LatchLaw s) (h : KeepsStill s t) : LatchLaw t := by
  rw [latchLaw_iff] at hs ⊢
  exact fun hl => h.still (hs (h.latch.symm.trans hl))

/-- With the latch CLEAR the law asks nothing. -/
theorem latchLaw_of_clear (h : s.emergency.latch = false) : LatchLaw s := fun hl => by
  rw [h] at hl
  cases hl

/-! ### What leaves the latch, the sessions and the calls -/

/-- A state with the latch, the sessions and the waiting calls of another. -/
theorem keepsStill_of_calls (hlatch : t.emergency.latch = s.emergency.latch)
    (hsession : ∀ d, (t.deck d).session = (s.deck d).session) (hwaiting : ∀ g, (t.gate g).waiting = (s.gate g).waiting) :
    KeepsStill s t :=
  ⟨hlatch, fun hs => ⟨hlatch.trans hs.latch, fun d => (hsession d).trans (hs.vacant d), fun g =>
    (hwaiting g).trans (hs.uncalled g)⟩⟩

/-- A state with the emergency record, the decks and the gates of another. -/
theorem keepsStill_of (he : t.emergency = s.emergency) (hd : t.decks = s.decks) (hg : t.gates = s.gates) :
    KeepsStill s t :=
  keepsStill_of_calls (by rw [he]) (fun d => by rw [deck_congr hd]) fun g => by rw [gate_congr hg]

theorem RecordsOnly.keepsStill (h : RecordsOnly s t) : KeepsStill s t := keepsStill_of h.emergency h.decks h.gates

theorem WakeKept.keepsStill (h : WakeKept s t) : KeepsStill s t :=
  keepsStill_of_calls (by rw [h.emergency]) h.session fun g => by rw [gate_congr h.gates]

/-- An operation on the yard that changes nothing where the yard stands still. -/
theorem YardOnly.keepsStill (h : YardOnly s t) (hstill : StandsStill s → t = s) : KeepsStill s t :=
  ⟨by rw [h.emergency], fun hs => (hstill hs).symm ▸ hs⟩

/-- Where a deck has a session the yard does not stand still. -/
theorem YardOnly.keepsStill_of_session (h : YardOnly s t) {d : DeckId} {v : Serving} (hv : (s.deck d).session = some v) :
    KeepsStill s t :=
  h.keepsStill fun hs => by
    rw [hs.vacant d] at hv
    cases hv

theorem setGate_keepsStill (s : State) {g : GateId} {x : Gate} (hx : x.waiting = (s.gate g).waiting) :
    KeepsStill s (s.setGate g x) := by
  refine keepsStill_of_calls rfl (fun _ => rfl) fun e => ?_
  rw [gate_setGate]
  split
  · next he => rw [hx, he]
  · rfl

theorem setDeck_keepsStill (s : State) {d : DeckId} {k : Deck} (hk : k.session = (s.deck d).session) :
    KeepsStill s (s.setDeck d k) := by
  refine keepsStill_of_calls rfl (fun e => ?_) fun _ => rfl
  rw [deck_setDeck]
  split
  · next he => rw [hk, he]
  · rfl

theorem reach_keepsStill (s : State) (n : Nat) : KeepsStill s (s.reach n) := keepsStill_of rfl rfl rfl

theorem setCells_keepsStill (s : State) (d : DeckId) (c : CellLink) : KeepsStill s (s.setCells d c) :=
  setDeck_keepsStill s rfl

theorem setUnit_keepsStill (s : State) (d : DeckId) (w : Weigher) : KeepsStill s (s.setUnit d w) :=
  setDeck_keepsStill s rfl

/-! ### Calls and offers (R115 to R118) -/

/-- Under the latch the arbiter refuses every call (R115). -/
theorem judgeCall_latched (h : s.emergency.latch = true) (g : GateId) (f : CallForm) :
    s.judgeCall g f = (s, .unavailable) :=
  judgeCall_barred ((callBarred_iff s g.deck).2 (.inl h))

theorem arbitrateCall_keepsStill (s : State) (g : GateId) (f : CallForm) : KeepsStill s (s.arbitrateCall g f).1 := by
  refine ⟨by rw [(arbitrateCall_yard s g f).emergency], fun hs => ?_⟩
  rw [arbitrateCall_unavailable (judgeCall_latched hs.latch g f)]
  exact (raise_records s _ _).keepsStill.still hs

theorem offer_keepsStill (s : State) (d : DeckId) : KeepsStill s (s.offer d) :=
  (offer_yard s d).keepsStill fun hs => offer_of_none hs.uncalled

theorem refuseWaiting_keepsStill (s : State) (d : DeckId) : KeepsStill s (s.refuseWaiting d) := by
  refine (refuseWaiting_yard s d).keepsStill fun hs => ?_
  have hone (g : GateId) : s.refuseOne g = s := if_neg (by rw [hs.uncalled g]; exact Bool.false_ne_true)
  rw [refuseWaiting_eq_refuseOne, hone, hone]

/-! ### The session (R122 to R131) -/

theorem sessionBarrier_keepsStill (s : State) (g : GateId) : KeepsStill s (s.sessionBarrier g) :=
  (sessionBarrier_yard s g).keepsStill fun hs => by rw [State.sessionBarrier, hs.vacant]

theorem sessionLoop_keepsStill (s : State) (g : GateId) (occupied : Bool) : KeepsStill s (s.sessionLoop g occupied) :=
  (sessionLoop_yard s g occupied).keepsStill fun hs => by rw [State.sessionLoop, hs.vacant]

theorem sessionEvaluation_keepsStill (s : State) (d : DeckId) : KeepsStill s (s.sessionEvaluation d) :=
  (sessionEvaluation_yard s d).keepsStill fun hs => by rw [State.sessionEvaluation, hs.vacant]

/-! ### Events of a gate (R93, R98, R100, R102) -/

theorem barrierMoved_keepsStill (s : State) (g : GateId) (before : Barrier) :
    KeepsStill s (s.barrierMoved g before) := by
  have hnoted (c : Prop) [Decidable c] : KeepsStill s (if c then s.raise .barrierFault (.gate g) else s) :=
    keeps_ite (raise_records s _ _).keepsStill (.refl s)
  exact keeps_ite (P := KeepsStill s) (hnoted _) ((hnoted _).trans (sessionBarrier_keepsStill _ g))

/-- An event of a gate whose operation on the channel leaves the waiting call. -/
theorem gateEvent_keepsStill (s : State) {g : GateId} {f : Gate → Gate}
    (hf : (f (s.gate g)).waiting = (s.gate g).waiting) : KeepsStill s (s.gateEvent g f) :=
  (setGate_keepsStill s hf).trans (barrierMoved_keepsStill _ g _)

theorem unlockGate_keepsStill (s : State) (g : GateId) : KeepsStill s (s.unlockGate g) := by
  have hunlocked := gateEvent_keepsStill s (g := g) (f := fun x => x.unlock s.now) (unlock_waiting _ _)
  exact keeps_ite (P := KeepsStill s)
    (keeps_ite (P := KeepsStill s) (hunlocked.trans (offer_keepsStill _ _)) hunlocked) (.refl s)

theorem phaseLapse_keepsStill (s : State) (g : GateId) (p : Phase) {f : Nat → Gate → Gate}
    (hf : ∀ now k, (f now k).waiting = k.waiting) : KeepsStill s (s.phaseLapse g p f) :=
  phaseLapse_keeps (P := KeepsStill s) (fun _ _ h => h.trans (reach_keepsStill _ _))
    (fun _ n h => h.trans (gateEvent_keepsStill _ (hf n _))) (.refl s)

/-- The host moves no barrier under the latch (R104). -/
theorem hostMove_keepsStill (s : State) (gate : Byte) (f : Gate → Gate) : KeepsStill s (s.hostMove gate f).1 := by
  unfold State.hostMove
  split
  · exact .refl s
  · next g _ =>
    split
    · exact .refl s
    · next hfree =>
      refine (gateEvent_yard s g f).keepsStill fun hs => absurd ?_ hfree
      simp only [State.hostBarred, hs.latch, Bool.true_or]

theorem wakeSource_keepsStill (s : State) (c : WakeCause) : KeepsStill s (s.wakeSource c) :=
  (wakeSource_kept s c).keepsStill

theorem loopEvent_keepsStill (s : State) (g : GateId) (occupied : Bool) : KeepsStill s (s.loopEvent g occupied) := by
  have hsession := (gateEvent_keepsStill s (g := g) (f := fun x => x.loopChange s.now occupied)
    (loopChange_waiting _ _ _)).trans (sessionLoop_keepsStill _ g occupied)
  exact keeps_ite (P := KeepsStill s) (hsession.trans (wakeSource_keepsStill _ _)) hsession

theorem acceptedRead_keepsStill (s : State) (g : GateId) (k : Tag) : KeepsStill s (s.acceptedRead g k) :=
  keeps_ite (P := KeepsStill s)
    (keeps_ite (P := KeepsStill s) ((wakeYard_kept s (.tag g)).keepsStill.trans (arbitrateCall_keepsStill _ g _)) (.refl s))
    (arbitrateCall_keepsStill s g _)

/-! ### The cycles of a deck (R1, R6) -/

theorem writeEvaluation_keepsStill (s : State) (d : DeckId) (r : CalRecord) (warming : Bool) (good : List Good) :
    KeepsStill s (s.writeEvaluation d r warming good) := by
  have hunit := setUnit_keepsStill s d (s.evaluation d r warming good).1
  rw [writeEvaluation_eq]
  exact keeps_ite (P := KeepsStill s) (hunit.trans (raise_records _ _ _).keepsStill) hunit

theorem evaluate_keepsStill (s : State) (d : DeckId) (warming : Bool) (good : List Good) :
    KeepsStill s (s.evaluate d warming good) := by
  cases hr : (s.deck d).cal.record with
  | none =>
    rw [evaluate_uncalibrated hr]
    exact .refl s
  | some r =>
    have hsession := (writeEvaluation_keepsStill s d r warming good).trans (sessionEvaluation_keepsStill _ d)
    rw [evaluate_eq hr]
    exact keeps_ite (P := KeepsStill s) (hsession.trans (offer_keepsStill _ d)) hsession

theorem pollNext_keepsStill (s : State) (d : DeckId) (warming : Bool) (todo : List Nat) (good : List Good) :
    KeepsStill s (s.pollNext d warming todo good) := by
  cases todo with
  | nil => exact (setCells_keepsStill s d _).trans (evaluate_keepsStill _ d warming good)
  | cons i rest => exact setCells_keepsStill s d _

theorem takeSlot_keepsStill (s : State) (d : DeckId) : KeepsStill s (s.takeSlot d) :=
  keeps_ite (P := KeepsStill s) ((setCells_keepsStill s d _).trans (pollNext_keepsStill _ d _ _ _))
    (setCells_keepsStill s d _)

theorem deckFault_keepsStill (s : State) (d : DeckId) : KeepsStill s (s.deckFault d) :=
  (setUnit_keepsStill s d _).trans (refuseWaiting_keepsStill _ d)

theorem missCell_keepsStill (s : State) (d : DeckId) (i : Nat) : KeepsStill s (s.missCell d i) := by
  unfold State.missCell
  dsimp only
  split
  · exact setCells_keepsStill s d _
  · have hfailed : KeepsStill s ((s.setCell d i ⟨3, true⟩).raise .deckFault (.cell d i)) :=
      (setCells_keepsStill s d _).trans (raise_records _ _ _).keepsStill
    split
    · exact hfailed.trans (deckFault_keepsStill _ d)
    · exact hfailed.trans (deckFault_keepsStill _ d)
    · exact hfailed

theorem endExchange_keepsStill (s : State) (d : DeckId) (c : Cycle) (g : Option Good) :
    KeepsStill s (s.endExchange d c g) := by
  cases g with
  | none => exact (missCell_keepsStill s d c.awaiting).trans (pollNext_keepsStill _ d _ _ _)
  | some g => exact (setCells_keepsStill s d _).trans (pollNext_keepsStill _ d _ _ _)

/-! ### The latch set and released, the resets (R138 to R143, R181, R183) -/

/-- A yard whose sessions are ended and whose calls are dropped keeps none through the wake and the notice (R139, R140,
R143, R147). -/
theorem latchLaw_ended (s : State) : LatchLaw
    (((s.eachDeck fun x d => (x.abortSession d).dropCalls d).wakeSource .emergency).raise .emergency .nothing) := by
  intro _
  have hended := eachDeck_sessionsEnded s
  have hwoken := wakeSource_kept (s.eachDeck fun x d => (x.abortSession d).dropCalls d) .emergency
  refine ⟨fun d => (hwoken.session d).trans ?_, fun g => (congrArg Gate.waiting (gate_congr hwoken.gates g)).trans ?_⟩
  · rw [hended.deck]
  · rw [hended.gate]
    rfl

/-- The setting of the latch leaves no session and no waiting call, whatever the yard held (R139, R140). -/
theorem latchLaw_setLatch (s : State) : LatchLaw s.setLatch := latchLaw_ended _

theorem latchLaw_releaseLatch (s : State) : LatchLaw s.releaseLatch := by
  refine latchLaw_of_clear ?_
  refine eachDeck_keeps (P := fun x => x.emergency.latch = false) (fun x d h => ?_)
    (eachGate_keeps (P := fun x => x.emergency.latch = false) (fun x g h => ?_) rfl)
  · rw [(offer_yard x d).emergency, h]
  · rw [(gateEvent_yard x g _).emergency, h]

theorem latchLaw_performReset (s : State) (cause : ResetCause) (lost : Bool) (pins : Pins) :
    LatchLaw (s.performReset cause lost pins) := by
  have hclear : (s.resetBlocks cause lost pins).serveBus.emergency.latch = false := by
    rw [(serveBus_records _).emergency]
    rfl
  exact keeps_ite (latchLaw_setLatch _) (latchLaw_of_clear hclear)

theorem clearTables_keepsStill (s : State) : KeepsStill s s.clearTables := by
  refine eachDeck_keeps (P := KeepsStill s) (fun x d h => h.trans (refuseWaiting_keepsStill x d)) ?_
  exact keepsStill_of_calls rfl (fun d => by cases d <;> rfl) fun _ => rfl

end Sys2Proof.Machine
end

section
/-! PROOFS. The law of the latch through every command and every step (R139): the commands that leave the latch, and
those that set it, release it or reset it. -/

namespace Sys2Proof.Machine

variable {s t : State}

/-! ### The frames of a command -/

theorem keepsStill_linkFree (s : State) : LinkFree (KeepsStill s) where
  link _ _ h := h.trans (keepsStill_of rfl rfl rfl)
  port _ _ h := h.trans (keepsStill_of rfl rfl rfl)

theorem request_keepsStill {kind : Byte} {f : State → State × Reply} (hf : ∀ s, KeepsStill s (f s).1)
    (h : request kind f s = .next t) : KeepsStill s t :=
  request_keeps (keepsStill_linkFree s) (fun _ _ hs => hs.trans (hf _)) (.refl s) h

theorem event_keepsStill {f : State → State} (hf : ∀ s, KeepsStill s (f s)) (h : event f s = .next t) : KeepsStill s t :=
  event_keeps (P := KeepsStill s) (fun _ _ hs => hs.trans (hf _)) (.refl s) h

/-- A visit request whose own part touches no more than records. -/
theorem visitRequest_keepsStill {kind slot : Byte} {expected : Option Revision} {own : State → Nat → State × Reply}
    (hf : ∀ s n, RecordsOnly s (own s n).1)
    (h : request kind (fun s => s.visitRequest slot expected (own s)) s = .next t) : KeepsStill s t :=
  request_keepsStill (fun s => visitRequest_keeps (fun n => (hf s n).keepsStill) (.refl s)) h

theorem accountRequest_keepsStill {kind : Byte} {number : AccountNo} {own : State → Account → State × Reply}
    (hf : ∀ s a, KeepsStill s (own s a).1) (h : request kind (fun s => s.withAccount number (own s)) s = .next t) :
    KeepsStill s t :=
  request_keepsStill (fun s => withAccount_keeps (hf s) (.refl s)) h

/-- A lapse of the job's timer whose effect touches no more than records. -/
theorem jobLapse_keepsStill {due : JobPhase → Option Nat} {f : State → Job → State} (hf : ∀ s j, RecordsOnly s (f s j))
    (h : event (fun s => s.jobLapse due f) s = .next t) : KeepsStill s t :=
  event_keepsStill (fun s => jobLapse_keeps (P := KeepsStill s) (fun _ _ h => h.trans (reach_keepsStill _ _))
    (fun _ _ h => h.trans (hf _ _).keepsStill) (.refl s)) h

/-! ### The requests on visits (R55 to R62, R161, R162) -/

theorem execAmend_keepsStill {slot : Byte} {e : Option Revision} {k : Option Byte} {p : Option (List Byte)}
    {a : Option AccountNo} (h : execAmend slot e k p a s = .next t) : KeepsStill s t := by
  refine visitRequest_keepsStill (fun s n => ?_) h
  split
  · split
    · exact amend_records _ _ _ _ _ _
    · exact .refl s
  · exact .refl s

theorem execCancelVisit_keepsStill {slot : Byte} {e : Option Revision} (h : execCancelVisit slot e s = .next t) :
    KeepsStill s t := by
  refine visitRequest_keepsStill (fun s n => ?_) h
  split
  · split
    · exact (writeSlot_records _ _ _).trans (countDown_records _ _)
    · exact .refl s
  · exact .refl s

theorem execResolveClose_keepsStill {slot action target : Byte} {e : Option Revision} {net : Option (BitVec 32)}
    (h : execResolveClose slot e action target net s = .next t) : KeepsStill s t := by
  refine visitRequest_keepsStill (fun s n => ?_) h
  split
  · split
    · split
      · exact resolveClose_records _ _ _ _ _ _ _
      · split
        · exact writeSlot_records _ _ _
        · exact .refl s
    · exact .refl s
  · exact .refl s

theorem execRedirect_keepsStill {slot target : Byte} {e : Option Revision}
    (h : execRedirect slot e target s = .next t) : KeepsStill s t := by
  refine visitRequest_keepsStill (fun s n => ?_) h
  split
  · split
    · split
      · exact .refl s
      · split
        · exact .refl s
        · exact doneAndServe_records _ _ _
    · exact .refl s
  · exact .refl s

theorem execReprint_keepsStill {slot : Byte} {e : Option Revision} (h : execReprint slot e s = .next t) :
    KeepsStill s t := by
  refine visitRequest_keepsStill (fun s n => ?_) h
  split
  · split
    · iterate 2
        split
        · exact .refl s
      split
      · exact doneAndServe_records _ _ _
      · exact .refl s
    · exact .refl s
  · exact .refl s

/-! ### The requests on decks, gates and sessions -/

theorem execRetryCell_keepsStill {deck cell : Byte} (h : execRetryCell deck cell s = .next t) : KeepsStill s t := by
  refine request_keepsStill (fun s => ?_) h
  split
  · exact .refl s
  · split
    · exact .refl s
    · split
      · exact .refl s
      · split
        · exact setCells_keepsStill s _ _
        · exact .refl s

theorem execCalPut_keepsStill {closed : Bool} {body : CalBody} (h : execCalPut closed body s = .next t) :
    KeepsStill s t := by
  refine request_keepsStill (fun s => ?_) h
  dsimp only
  iterate 4
    split
    · exact .refl s
  rw [calibrate_eq]
  exact setDeck_keepsStill s rfl

theorem execZero_keepsStill {deck : Byte} (h : execZero deck s = .next t) : KeepsStill s t := by
  refine request_keepsStill (fun s => ?_) h
  split
  · exact .refl s
  · dsimp only
    iterate 5
      split
      · exact .refl s
    exact setDeck_keepsStill s rfl

theorem execSetDeckTimers_keepsStill {deck : Byte} {board capture wait : BitVec 16}
    (h : execSetDeckTimers deck board capture wait s = .next t) : KeepsStill s t := by
  refine request_keepsStill (fun s => ?_) h
  split
  · exact .refl s
  · exact setDeck_keepsStill s rfl

theorem execSetGate_keepsStill {gate warn drive settle : Byte} (h : execSetGate gate warn drive settle s = .next t) :
    KeepsStill s t := by
  refine request_keepsStill (fun s => ?_) h
  split
  · exact .refl s
  · exact setGate_keepsStill s rfl

theorem execResetGate_keepsStill {gate : Byte} (h : execResetGate gate s = .next t) : KeepsStill s t := by
  refine request_keepsStill (fun s => ?_) h
  split
  · exact .refl s
  · iterate 2
      split
      · exact .refl s
    exact gateEvent_keepsStill s (f := fun x => x.restore s.now s.emergency.latch) (restore_waiting _ _ _)

theorem execLock_keepsStill {gate : Byte} (h : execLock gate s = .next t) : KeepsStill s t := by
  refine request_keepsStill (fun s => ?_) h
  split
  · exact .refl s
  · exact setGate_keepsStill s rfl

theorem execUnlock_keepsStill {gate : Byte} (h : execUnlock gate s = .next t) : KeepsStill s t := by
  refine request_keepsStill (fun s => ?_) h
  split
  · exact .refl s
  · exact unlockGate_keepsStill s _

theorem execReadGate_keepsStill {gate clear : Byte} (h : execReadGate gate clear s = .next t) : KeepsStill s t := by
  refine request_keepsStill (fun s => ?_) h
  split
  · exact keeps_ite (P := KeepsStill s) (setGate_keepsStill s rfl) (.refl s)
  · exact .refl s

theorem execCall_keepsStill {gate form : Byte} {key : List Byte} {account : AccountNo} {kind direction : Byte}
    (h : execCall gate form key account kind direction s = .next t) : KeepsStill s t := by
  refine request_keepsStill (fun s => ?_) h
  split
  · exact .refl s
  · split
    · exact .refl s
    · split
      · exact .refl s
      · exact arbitrateCall_keepsStill s _ _

theorem execManualCapture_keepsStill {deck : Byte} {weight : BitVec 32}
    (h : execManualCapture deck weight s = .next t) : KeepsStill s t := by
  refine request_keepsStill (fun s => ?_) h
  split
  · exact .refl s
  · split
    · exact .refl s
    · next v hv =>
      iterate 2
        split
        · exact .refl s
      exact (captureInto_yard s _ v _).keepsStill_of_session hv

theorem execCancelSession_keepsStill {deck : Byte} (h : execCancelSession deck s = .next t) : KeepsStill s t := by
  refine request_keepsStill (fun s => ?_) h
  split
  · exact .refl s
  · split
    · exact .refl s
    · next v hv =>
      split
      · next hcancel => exact (cancel_yard s _ v _ hcancel).keepsStill_of_session hv
      · exact .refl s

theorem execClearTables_keepsStill {closed : Bool} (h : execClearTables closed s = .next t) : KeepsStill s t := by
  refine request_keepsStill (fun s => ?_) h
  iterate 2
    split
    · exact .refl s
  exact clearTables_keepsStill s

/-! ### Quiet running, the printers and the Service Unit -/

theorem execQuiet_keepsStill (h : execQuiet s = .next t) : KeepsStill s t := by
  have hsleep (u : State) (d : DeckId) : KeepsStill u (u.enterAsleep d) := by
    rw [enterAsleep_eq]
    exact setDeck_keepsStill u (asleep_session _)
  refine request_keepsStill (fun s => ?_) h
  iterate 2
    split
    · exact .refl s
  exact eachDeck_keeps (P := KeepsStill s) (fun u d hu => hu.trans (hsleep u d)) (keepsStill_of rfl rfl rfl)

theorem execWake_keepsStill (h : execWake s = .next t) : KeepsStill s t := by
  refine request_keepsStill (fun s => ?_) h
  split
  · exact (wakeYard_kept s _).keepsStill
  · exact .refl s

theorem execReleasePrinter_keepsStill {printer : Byte} (h : execReleasePrinter printer s = .next t) :
    KeepsStill s t := by
  refine request_keepsStill (fun s => ?_) h
  split
  · exact .refl s
  · split
    · split
      · exact (setPrinter_records _ _ _).keepsStill
      · exact .refl s
    · exact (returnPrinter_records _ _).keepsStill
    · exact .refl s

theorem execResumePrinter_keepsStill {printer : Byte} (h : execResumePrinter printer s = .next t) :
    KeepsStill s t := by
  refine request_keepsStill (fun s => ?_) h
  split
  · exact .refl s
  · split
    · exact (returnPrinter_records _ _).keepsStill
    · exact .refl s

theorem setService_checkStays_keepsStill (s : State) (x : Service) : KeepsStill s (s.setService x).checkStays :=
  KeepsStill.trans (t := s.setService x) (keepsStill_of rfl rfl rfl) (checkStays_records _).keepsStill

theorem execSetClock_keepsStill {seconds : Seconds} (h : execSetClock seconds s = .next t) : KeepsStill s t := by
  refine request_keepsStill (fun s => ?_) h
  dsimp only
  exact setService_checkStays_keepsStill s _

theorem execSetSite_keepsStill {maxStay tagWake loopWake : Byte} (h : execSetSite maxStay tagWake loopWake s = .next t) :
    KeepsStill s t := by
  refine request_keepsStill (fun s => ?_) h
  dsimp only
  split
  · dsimp only
    exact setService_checkStays_keepsStill s _
  · exact .refl s

theorem execYardClockAdvance_keepsStill (h : execYardClockAdvance s = .next t) : KeepsStill s t := by
  obtain rfl := Host.Outcome.next.inj h
  have hticked : KeepsStill s s.tickClock := keepsStill_of rfl rfl rfl
  exact keeps_ite (P := KeepsStill s) (hticked.trans (checkStays_records _).keepsStill)
    (keeps_ite (P := KeepsStill s) hticked (.refl s))

/-! ### The events of cells, gates, readers and sessions -/

theorem execCycleSlot_keepsStill {d : DeckId} (h : execCycleSlot d s = .next t) : KeepsStill s t := by
  refine event_keepsStill (fun s => ?_) h
  have hpassed : KeepsStill s (s.slotPassed d) := (reach_keepsStill s _).trans (setCells_keepsStill _ d _)
  exact keeps_ite (P := KeepsStill s) (hpassed.trans (takeSlot_keepsStill _ d)) hpassed

theorem execCellAnswer_keepsStill {d : DeckId} {f : List Byte} (h : execCellAnswer d f s = .next t) :
    KeepsStill s t := by
  refine event_keepsStill (fun s => ?_) h
  split
  · exact endExchange_keepsStill s d _ _
  · exact .refl s

theorem execAnswerWindowLapse_keepsStill {d : DeckId} (h : execAnswerWindowLapse d s = .next t) : KeepsStill s t := by
  refine event_keepsStill (fun s => ?_) h
  split
  · exact (reach_keepsStill s _).trans (endExchange_keepsStill _ d _ _)
  · exact .refl s

theorem execWarmUpLapse_keepsStill {d : DeckId} (h : execWarmUpLapse d s = .next t) : KeepsStill s t := by
  refine event_keepsStill (fun s => ?_) h
  split
  · exact .refl s
  · next due _ =>
    have hwarmed (c : CellLink) (w : Weigher) :
        KeepsStill s ((s.reach due).setDeck d { (s.reach due).deck d with cells := c, unit := w }) :=
      (reach_keepsStill s due).trans (setDeck_keepsStill _ rfl)
    dsimp only
    split
    · exact keeps_ite (P := KeepsStill s) ((hwarmed _ _).trans (deckFault_keepsStill _ d)) (hwarmed _ _)
    · exact hwarmed _ _

theorem execLimitSwitchChange_keepsStill {g : GateId} {w : LimitSwitch} {active : Bool}
    (h : execLimitSwitchChange g w active s = .next t) : KeepsStill s t := by
  refine event_keepsStill (fun s => ?_) h
  have hchanged := gateEvent_keepsStill s (g := g) (f := fun x => x.switchChange s.now w active)
    (switchChange_waiting _ _ _ _)
  exact keeps_ite (P := KeepsStill s) (.refl s) hchanged

theorem execTagFrame_keepsStill {g : GateId} {f : List Byte} (h : execTagFrame g f s = .next t) : KeepsStill s t := by
  refine event_keepsStill (fun s => ?_) h
  split
  · exact setGate_keepsStill s rfl
  · next tag _ =>
    have hread := setGate_keepsStill s (read_waiting (s.gate g) s.now tag)
    exact keeps_ite (P := KeepsStill s) (hread.trans (acceptedRead_keepsStill _ g tag)) hread

/-- A call that waits to lapse stands at no gate of a yard that stands still (R116). -/
theorem execCallWaitLapse_keepsStill {g : GateId} (h : execCallWaitLapse g s = .next t) : KeepsStill s t := by
  refine event_keepsStill (fun s => ?_) h
  split
  · next c hc =>
    refine ⟨rfl, fun hs => ?_⟩
    rw [hs.uncalled g] at hc
    cases hc
  · exact .refl s

theorem execBoardTimerLapse_keepsStill {d : DeckId} (h : execBoardTimerLapse d s = .next t) : KeepsStill s t := by
  refine event_keepsStill (fun s => ?_) h
  split
  · next v hv =>
    split
    · next due _ _ =>
      exact (reach_keepsStill s due).trans ((giveUp_yard (s.reach due) d v).keepsStill_of_session hv)
    · exact .refl s
  · exact .refl s

theorem execCaptureTimerLapse_keepsStill {d : DeckId} (h : execCaptureTimerLapse d s = .next t) : KeepsStill s t := by
  refine event_keepsStill (fun s => ?_) h
  split
  · next v hv =>
    split
    · next due _ _ =>
      have hstopped := (setSession_yard (s.reach due) d (some { v with captureDue := none })).keepsStill_of_session hv
      exact ((reach_keepsStill s due).trans hstopped).trans (raise_records _ _ _).keepsStill
    · exact .refl s
  · exact .refl s

/-! ### The events of the print bus (R150, R156, R157) -/

theorem setPins_keepsStill (s : State) (p : PrinterId) (x : PrinterPins) : KeepsStill s (s.setPins p x) :=
  (setPins_records s p x).keepsStill

theorem execPbusyChange_keepsStill {p : PrinterId} {active : Bool} (h : execPbusyChange p active s = .next t) :
    KeepsStill s t := by
  refine event_keepsStill (fun s => ?_) h
  have hpins := setPins_keepsStill s p
  dsimp only
  split
  · exact .refl s
  · split
    · split
      · exact keeps_ite (P := KeepsStill s) ((hpins _).trans (setJob_records _ _).keepsStill) (hpins _)
      · exact hpins _
    · exact hpins _

theorem execPfltChange_keepsStill {p : PrinterId} {active : Bool} (h : execPfltChange p active s = .next t) :
    KeepsStill s t := by
  refine event_keepsStill (fun s => ?_) h
  have hpins := setPins_keepsStill s p
  dsimp only
  split
  · exact .refl s
  · split
    · exact keeps_ite (P := KeepsStill s) ((hpins _).trans (faultJob_records _ _ _).keepsStill) (hpins _)
    · exact hpins _

theorem execPdoneChange_keepsStill {p : PrinterId} {active : Bool} (h : execPdoneChange p active s = .next t) :
    KeepsStill s t := by
  refine event_keepsStill (fun s => ?_) h
  have hpins := setPins_keepsStill s p
  dsimp only
  split
  · exact .refl s
  · split
    · split
      · exact keeps_ite (P := KeepsStill s) ((hpins _).trans (finishJob_records _ _).keepsStill) (hpins _)
      · exact hpins _
    · exact hpins _

/-! ### Commands that leave the latch -/

/-- The commands that may set, release or reset the latch (R137, R141, R143, R181, R182). -/
def movesLatch : Instr → Bool
  | .emergencyRelease | .emergencyInputChange _ | .restart _ | .powerOn _ | .pinReset _ | .mainSupplyLoss _ => true
  | _ => false

/-- Every command but those of `movesLatch` leaves the latch, and leaves still a yard that stands still (R139). -/
theorem exec_keepsStill {c : Instr} (hc : movesLatch c = false) (h : exec c s = .next t) : KeepsStill s t := by
  cases c with
  | readDeck | calGet | find | getVehicle | getAccount | getKind | readSession | readPrinters | readNotices | status
  | malformedFrame | cutShortFrame => exact query_keeps (keepsStill_linkFree s) (.refl s) h
  -- Every outcome of these leaves the emergency record, the decks and the gates: the split names the outcomes.
  | seek | setTicketNext | putVehicle | dropVehicle | putKind | setPrint | holdPrinter | takeNotice | dropNotices
  | setNotice =>
    refine request_keepsStill (fun s => ?_) h
    repeat' split
    all_goals exact keepsStill_of rfl rfl rfl
  | walk | setTareFromDeck | putAccount =>
    refine request_keepsStill (fun s => ?_) h
    dsimp only
    repeat' split
    all_goals exact keepsStill_of rfl rfl rfl
  | credit =>
    refine accountRequest_keepsStill (fun s a => ?_) h
    exact keeps_ite (P := KeepsStill s) (keepsStill_of rfl rfl rfl) (keepsStill_of rfl rfl rfl)
  | stop | release | dropAccount =>
    refine accountRequest_keepsStill (fun s a => ?_) h
    repeat' split
    all_goals exact keepsStill_of rfl rfl rfl
  | resolveDiscard | collect =>
    refine visitRequest_keepsStill (fun s n => ?_) h
    repeat' split
    · exact writeSlot_records _ _ _
    all_goals exact .refl s
  | amend => exact execAmend_keepsStill h
  | cancelVisit => exact execCancelVisit_keepsStill h
  | resolveClose => exact execResolveClose_keepsStill h
  | redirect => exact execRedirect_keepsStill h
  | reprint => exact execReprint_keepsStill h
  | retryCell => exact execRetryCell_keepsStill h
  | calPut => exact execCalPut_keepsStill h
  | zero => exact execZero_keepsStill h
  | setDeckTimers => exact execSetDeckTimers_keepsStill h
  | setGate => exact execSetGate_keepsStill h
  | raise | lower => exact request_keepsStill (fun _ => hostMove_keepsStill _ _ _) h
  | resetGate => exact execResetGate_keepsStill h
  | lock => exact execLock_keepsStill h
  | unlock => exact execUnlock_keepsStill h
  | readGate => exact execReadGate_keepsStill h
  | call => exact execCall_keepsStill h
  | manualCapture => exact execManualCapture_keepsStill h
  | cancelSession => exact execCancelSession_keepsStill h
  | clearTables => exact execClearTables_keepsStill h
  | quiet => exact execQuiet_keepsStill h
  | wake => exact execWake_keepsStill h
  | releasePrinter => exact execReleasePrinter_keepsStill h
  | resumePrinter => exact execResumePrinter_keepsStill h
  | setClock => exact execSetClock_keepsStill h
  | setSite => exact execSetSite_keepsStill h
  | overrun | answerRead =>
    exact selection_keeps (keepsStill_linkFree s) (fun s _ hs => (keepsStill_linkFree _).link s _ hs) (.refl s) h
  | yardClockAdvance => exact execYardClockAdvance_keepsStill h
  | cycleSlot => exact execCycleSlot_keepsStill h
  | cellAnswer => exact execCellAnswer_keepsStill h
  | answerWindowLapse => exact execAnswerWindowLapse_keepsStill h
  | warmUpLapse => exact execWarmUpLapse_keepsStill h
  | loopStateChange =>
    exact event_keepsStill (fun s => keeps_ite (P := KeepsStill s) (.refl s) (loopEvent_keepsStill s _ _)) h
  | limitSwitchChange => exact execLimitSwitchChange_keepsStill h
  | warnTimeLapse =>
    exact event_keepsStill (fun s => phaseLapse_keepsStill s _ _ fun now k => warnLapse_waiting k now) h
  | driveLimitLapse => exact event_keepsStill (fun s => phaseLapse_keepsStill s _ _ fun _ => driveLapse_waiting) h
  | settleTimeLapse =>
    exact event_keepsStill (fun s => phaseLapse_keepsStill s _ _ fun now k => settleLapse_waiting k now) h
  | tagFrame => exact execTagFrame_keepsStill h
  | callWaitLapse => exact execCallWaitLapse_keepsStill h
  | boardTimerLapse => exact execBoardTimerLapse_keepsStill h
  | captureTimerLapse => exact execCaptureTimerLapse_keepsStill h
  | setupTimeLapse => exact jobLapse_keepsStill (fun _ _ => setJob_records _ _) h
  | strobeTimeLapse => exact jobLapse_keepsStill strobeEnd_records h
  | holdTimeLapse => exact jobLapse_keepsStill byteEnd_records h
  | busyWaitLapse | completionLimitLapse => exact jobLapse_keepsStill (fun _ _ => faultJob_records _ _ _) h
  | pbusyChange => exact execPbusyChange_keepsStill h
  | pfltChange => exact execPfltChange_keepsStill h
  | pdoneChange => exact execPdoneChange_keepsStill h
  | _ => cases hc

/-! ### Commands that set, release or reset the latch -/

theorem latchLaw_linkFree : LinkFree LatchLaw where
  link _ _ hs := hs
  port _ _ hs := hs

theorem LatchLaw.execEmergencyRelease (hs : LatchLaw s) (h : execEmergencyRelease s = .next t) : LatchLaw t := by
  refine request_keeps latchLaw_linkFree (fun s _ hs => ?_) hs h
  iterate 2
    split
    · exact hs
  exact latchLaw_releaseLatch s

/-- The input alone leaves the latch and the yard; its edge to ACTIVE sets the latch (R137). -/
theorem LatchLaw.execEmergencyInputChange {active : Bool} (hs : LatchLaw s)
    (h : execEmergencyInputChange active s = .next t) : LatchLaw t := by
  refine event_keeps (fun s _ hs => ?_) hs h
  have hinput : LatchLaw { s with emergency := { s.emergency with input := active } } := hs
  exact keeps_ite hs (keeps_ite (latchLaw_setLatch _) hinput)

theorem LatchLaw.execRestart {pins : Pins} (hs : LatchLaw s) (h : execRestart pins s = .next t) : LatchLaw t := by
  refine selection_keeps latchLaw_linkFree (fun s _ hs => ?_) hs h
  split
  · exact hs
  · exact latchLaw_performReset _ _ _ _

theorem latchLaw_execPowerOn {pins : Pins} (h : execPowerOn pins s = .next t) : LatchLaw t := by
  obtain rfl := Host.Outcome.next.inj h
  exact keeps_ite (latchLaw_performReset _ _ _ _) (latchLaw_performReset _ _ _ _)

/-- Without supply the latch is CLEAR (log 5). -/
theorem latchLaw_execMainSupplyLoss {fails : Bool} (h : execMainSupplyLoss fails s = .next t) : LatchLaw t := by
  obtain rfl := Host.Outcome.next.inj h
  exact latchLaw_of_clear rfl

/-! ### Every command, every step -/

/-- Every command keeps the law of the latch (R139). -/
theorem LatchLaw.exec {c : Instr} (hs : LatchLaw s) (h : exec c s = .next t) : LatchLaw t := by
  cases hmoves : movesLatch c with
  | false => exact hs.keep (exec_keepsStill hmoves h)
  | true =>
    cases c with
    | emergencyRelease => exact hs.execEmergencyRelease h
    | emergencyInputChange => exact hs.execEmergencyInputChange h
    | restart => exact hs.execRestart h
    | powerOn => exact latchLaw_execPowerOn h
    | pinReset => exact event_keeps (fun _ _ _ => latchLaw_performReset _ _ _ _) hs h
    | mainSupplyLoss => exact latchLaw_execMainSupplyLoss h
    | _ => cases hmoves

/-- Settles O55: the setting of the latch leaves no session and no waiting call, and under the latch no command brings
one, since the arbiter refuses every call and every other command moves a session only where there is one. -/
theorem stepKeepsTheLatchLaw : Obligations.StepKeepsTheLatchLaw := by
  intro s t hs h
  exact step_keeps (P := LatchLaw) (fun _ _ hs => hs) (fun _ _ hs => hs) (fun _ _ _ hs h => hs.exec h) hs h

end Sys2Proof.Machine
end

section
/-! PROOFS. The bytes of a field and the ticket frame (R163, R184, R188, R189). -/

namespace Sys2Proof

/-! ### The bytes of a field (R184) -/

@[simp] theorem bytesOfInt_length (n : Nat) (x : Int) : (bytesOfInt n x).length = n := by
  induction n generalizing x with
  | zero => rfl
  | succ n ih => simp [bytesOfInt, ih]

@[simp] theorem bytesOfNat_length (n x : Nat) : (bytesOfNat n x).length = n := bytesOfInt_length n x

theorem natOfBytes_append_byte (l : List Byte) (b : Byte) : natOfBytes (l ++ [b]) = natOfBytes l * 256 + b.toNat := by
  simp [natOfBytes]

/-- A field reads back as its value modulo its size: its last byte is the remainder, the bytes before it hold
the quotient. -/
theorem natOfBytes_bytesOfInt (n : Nat) (x : Int) : (natOfBytes (bytesOfInt n x) : Int) = x % 256 ^ n := by
  induction n generalizing x with
  | zero => simp [bytesOfInt, natOfBytes]
  | succ n ih =>
    have hbyte : ((BitVec.ofInt 8 x).toNat : Int) = x % 256 := by
      rw [BitVec.toNat_ofInt]
      omega
    have hsplit : x % 256 ^ (n + 1) = x / 256 % 256 ^ n * 256 + x % 256 := by
      rw [pow_succ', Int.emod_def x (256 * 256 ^ n), ← Int.ediv_ediv_of_nonneg (by decide), Int.emod_def (x / 256),
        Int.emod_def x 256]
      ring
    rw [bytesOfInt, natOfBytes_append_byte, hsplit, ← ih, ← hbyte]
    push_cast
    rfl

/-! ### The fields of a frame -/

/-- The bytes of one field of a frame that is written field by field. -/
theorem slice_flatten {fields : List (List Byte)} {x : List Byte} (k : Nat) {i n : Nat} (hx : fields[k]? = some x)
    (hi : (fields.take k).flatten.length = i) (hn : x.length = n) : slice fields.flatten i n = x := by
  obtain ⟨hk, rfl⟩ := List.getElem?_eq_some_iff.1 hx
  have hsplit : fields = fields.take k ++ fields[k] :: fields.drop (k + 1) := by
    rw [List.getElem_cons_drop, List.take_append_drop]
  have hflat : fields.flatten = (fields.take k).flatten ++ (fields[k] ++ (fields.drop (k + 1)).flatten) := by
    rw [← List.flatten_cons, ← List.flatten_append, ← hsplit]
  rw [slice, hflat, ← hi, ← hn, List.drop_left, List.take_left]

namespace Machine

@[simp] theorem plateBytes_length (p : Plate) : (plateBytes p).length = 10 := by
  simp [plateBytes]

@[simp] theorem weighing_ticketBytes_length (w : Weighing) : w.ticketBytes.length = 10 := by
  simp [Weighing.ticketBytes]

/-- The fields of the ticket frame before its check (R188). -/
def ticketFields (p : PrinterId) (v : Visit) (t : Ticket) : List (List Byte) :=
  [[0xC5], bytesOfNat 4 t.number, bytesOfNat 1 t.attempts, bytesOfNat 1 (printerCode p), plateBytes v.plate,
    bytesOfNat 1 (bit v.tag.isSome + 2 * bit v.account.isSome), bytesOfNat 4 (v.tag.getD 0).toNat,
    bytesOfNat 2 (v.account.getD 0).toNat, bytesOfNat 1 v.kind, bytesOfNat 1 (directionCode v.direction),
    t.first.ticketBytes, t.second.ticketBytes, bytesOfInt 4 t.net, bytesOfNat 4 t.charge,
    bytesOfNat 4 t.closeTime.toNat, bytesOfNat 1 (bit v.onePass + 2 * bit t.adjusted)]

theorem ticketBody_eq (p : PrinterId) (v : Visit) (t : Ticket) : ticketBody p v t = (ticketFields p v t).flatten := by
  simp [ticketBody, ticketFields]

@[simp] theorem ticketBody_length (p : PrinterId) (v : Visit) (t : Ticket) : (ticketBody p v t).length = 59 := by
  simp [ticketBody]

@[simp] theorem ticketFrame_length (p : PrinterId) (v : Visit) (t : Ticket) : (ticketFrame p v t).length = 61 := by
  simp [ticketFrame]

/-- The widths of the fields of the ticket frame before its check (R188). -/
def ticketWidths : List Nat := [1, 4, 1, 1, 10, 1, 4, 2, 1, 1, 10, 10, 4, 4, 4, 1]

theorem ticketFields_widths (p : PrinterId) (v : Visit) (t : Ticket) :
    (ticketFields p v t).map List.length = ticketWidths := by
  simp [ticketFields, ticketWidths]

/-- A field of the ticket frame before its check stands behind the fields before it. -/
theorem slice_ticketFrame {p : PrinterId} {v : Visit} {t : Ticket} (k : Nat) {x : List Byte}
    (hx : (ticketFields p v t)[k]? = some x) :
    slice (ticketFrame p v t) (ticketWidths.take k).sum (ticketWidths.getD k 0) = x := by
  obtain ⟨hk, hget⟩ := List.getElem?_eq_some_iff.1 hx
  have hframe : ticketFrame p v t =
      (ticketFields p v t ++ [bytesOfNat 2 (ticketCheck (ticketBody p v t))]).flatten := by
    rw [ticketFrame, List.flatten_append, ← ticketBody_eq, List.flatten_singleton]
  rw [hframe]
  refine slice_flatten k (by rw [List.getElem?_append_left hk, hx]) ?_ ?_
  · rw [List.take_append_of_le_length hk.le, List.length_flatten, List.map_take, ticketFields_widths]
  · rw [← ticketFields_widths p v t, List.getD_eq_getElem?_getD, List.getElem?_map, hx]
    rfl

theorem ticketCheck_eq (l : List Byte) : ticketCheck l = (l.map fun b => b.toNat).sum % 65536 := by
  rw [ticketCheck, List.sum_eq_foldl, List.foldl_map]

/-- The check of the ticket frame is the 16-bit sum of the bytes before it (R189). -/
theorem slice_ticketFrame_check (p : PrinterId) (v : Visit) (t : Ticket) : slice (ticketFrame p v t) 59 2 =
    bytesOfNat 2 ((((ticketFrame p v t).take 59).map fun b => b.toNat).sum % 65536) := by
  have hbody : (ticketFrame p v t).take 59 = ticketBody p v t := by
    rw [ticketFrame, ← ticketBody_length p v t, List.take_left]
  rw [hbody, ← ticketCheck_eq, slice, ticketFrame, ← ticketBody_length p v t, List.drop_left,
    List.take_of_length_le (by simp)]

end Machine

end Sys2Proof
end

section
/-! PROOFS. The oldest waiting ticket of a printer (R153). -/

namespace Sys2Proof.Machine

/-! ### Waiting tickets -/

/-- A slot holds a waiting ticket of a printer (R153). -/
def Slot.Waits (sl : Slot) (p : PrinterId) (v : Visit) (t : Ticket) : Prop :=
  sl.visit = some v ∧ v.state = .closed t ∧ t.target = some p ∧ t.mark = .unprinted

/-- A slot of the register holds a waiting ticket of a printer (R153). -/
def State.Waits (s : State) (p : PrinterId) (n : Nat) (v : Visit) (t : Ticket) : Prop :=
  s.visit n = some v ∧ v.state = .closed t ∧ t.target = some p ∧ t.mark = .unprinted

/-- The oldest waiting ticket of a printer; of equal ages the one in the lowest slot (R153). -/
def State.Oldest (s : State) (p : PrinterId) (n : Nat) (v : Visit) (t : Ticket) : Prop :=
  s.Waits p n v t ∧
  (∀ m u x, s.Waits p m u x →
    ticketAge s.register.nextTicket x.number ≤ ticketAge s.register.nextTicket t.number) ∧
  ∀ m u x, s.Waits p m u x →
    ticketAge s.register.nextTicket x.number = ticketAge s.register.nextTicket t.number → n ≤ m

theorem State.waits_iff {s : State} {p : PrinterId} {n : Nat} {v : Visit} {t : Ticket} :
    s.Waits p n v t ↔ ∃ sl, s.register.slots[n]? = some sl ∧ sl.Waits p v t := by
  unfold State.Waits
  rw [visit_eq_some_iff]
  constructor
  · rintro ⟨⟨sl, hn, hv⟩, hrest⟩
    exact ⟨sl, hn, hv, hrest⟩
  · rintro ⟨sl, hn, hv, hrest⟩
    exact ⟨⟨sl, hn, hv⟩, hrest⟩

/-! ### The search (R153) -/

section Search

variable {p : PrinterId} {c : Nat} {sl : Slot}

/-- The search passes over a slot without a waiting ticket of the printer. -/
theorem oldestFrom_skip (h : ∀ v t, ¬ sl.Waits p v t) (l : List Slot) (i : Nat) :
    oldestFrom p c (sl :: l) i = oldestFrom p c l (i + 1) := by
  rw [oldestFrom]
  split
  · next t ht =>
    obtain ⟨v, hv, hvt⟩ := Option.bind_eq_some_iff.1 ht
    have hstate : v.state = .closed t := by
      unfold Visit.ticket at hvt
      split at hvt
      · next hst => rw [hst, Option.some.inj hvt]
      · cases hvt
    have hnot := h v t
    rw [if_neg]
    intro hboth
    simp only [Bool.and_eq_true, beq_iff_eq] at hboth
    exact hnot ⟨hv, hstate, hboth⟩
  · rfl

/-- The search at a slot with a waiting ticket, where it finds none further on. -/
theorem oldestFrom_of_none {v : Visit} {t : Ticket} (h : sl.Waits p v t) {l : List Slot} {i : Nat}
    (hrest : oldestFrom p c l (i + 1) = none) : oldestFrom p c (sl :: l) i = some (i, t.number) := by
  obtain ⟨hv, hst, htarget, hmark⟩ := h
  have hticket : sl.visit.bind Visit.ticket = some t := by simp [hv, Visit.ticket, hst]
  simp only [oldestFrom, hticket, htarget, hmark, hrest, beq_self_eq_true, Bool.and_self, if_true]

/-- The search at a slot with a waiting ticket: one found further on is taken only where it is older. -/
theorem oldestFrom_of_some {v : Visit} {t : Ticket} (h : sl.Waits p v t) {l : List Slot} {i j k : Nat}
    (hrest : oldestFrom p c l (i + 1) = some (j, k)) : oldestFrom p c (sl :: l) i =
      if ticketAge c t.number < ticketAge c k then some (j, k) else some (i, t.number) := by
  obtain ⟨hv, hst, htarget, hmark⟩ := h
  have hticket : sl.visit.bind Visit.ticket = some t := by simp [hv, Visit.ticket, hst]
  simp only [oldestFrom, hticket, htarget, hmark, hrest, beq_self_eq_true, Bool.and_self, if_true]

/-- A search that finds nothing: no slot holds a waiting ticket of the printer. -/
theorem oldestFrom_eq_none {l : List Slot} {i : Nat} (h : oldestFrom p c l i = none) :
    ∀ sl ∈ l, ∀ v t, ¬ sl.Waits p v t := by
  induction l generalizing i with
  | nil => simp
  | cons sl rest ih =>
    by_cases hw : ∃ v t, sl.Waits p v t
    · obtain ⟨v, t, hw⟩ := hw
      cases hrest : oldestFrom p c rest (i + 1) with
      | none =>
        rw [oldestFrom_of_none hw hrest] at h
        cases h
      | some found =>
        rw [oldestFrom_of_some hw hrest] at h
        split at h <;> cases h
    · simp only [not_exists] at hw
      rw [oldestFrom_skip hw] at h
      exact List.forall_mem_cons.2 ⟨hw, ih h⟩

/-- A slot holds at most one ticket. -/
theorem Slot.Waits.unique {v v' : Visit} {t t' : Ticket} (h : sl.Waits p v t) (h' : sl.Waits p v' t') :
    v' = v ∧ t' = t := by
  obtain ⟨hv, hst, -⟩ := h
  obtain ⟨hv', hst', -⟩ := h'
  obtain rfl := Option.some.inj (hv.symm.trans hv')
  exact ⟨rfl, VisitState.closed.inj (hst'.symm.trans hst)⟩

/-- The slot at `m` of a list holds the oldest waiting ticket of a printer; of equal ages it is the lowest (R153). -/
def OldestAt (p : PrinterId) (c : Nat) (l : List Slot) (m : Nat) (k : Nat) : Prop :=
  (∃ sl v t, l[m]? = some sl ∧ sl.Waits p v t ∧ t.number = k) ∧
  ∀ m' sl v t, l[m']? = some sl → sl.Waits p v t →
    ticketAge c t.number ≤ ticketAge c k ∧ (ticketAge c t.number = ticketAge c k → m ≤ m')

/-- The oldest ticket of a list is that of a longer one whose first slot has none at least as old. -/
theorem OldestAt.cons {l : List Slot} {m k : Nat} (h : OldestAt p c l m k)
    (hsl : ∀ v t, sl.Waits p v t → ticketAge c t.number < ticketAge c k) : OldestAt p c (sl :: l) (m + 1) k := by
  obtain ⟨hfound, hleast⟩ := h
  refine ⟨hfound, fun m' sl' v t hm' hw => ?_⟩
  cases m' with
  | zero =>
    obtain rfl := Option.some.inj hm'
    have hyounger := hsl v t hw
    exact ⟨hyounger.le, fun heq => absurd heq hyounger.ne⟩
  | succ m' =>
    obtain ⟨hage, hlow⟩ := hleast m' sl' v t hm' hw
    exact ⟨hage, fun heq => Nat.succ_le_succ (hlow heq)⟩

/-- The first slot of a list holds the oldest ticket where no later one is older. -/
theorem oldestAt_zero {l : List Slot} {v : Visit} {t : Ticket} (h : sl.Waits p v t)
    (hrest : ∀ sl' ∈ l, ∀ v' t', sl'.Waits p v' t' → ticketAge c t'.number ≤ ticketAge c t.number) :
    OldestAt p c (sl :: l) 0 t.number := by
  refine ⟨⟨sl, v, t, rfl, h, rfl⟩, fun m' sl' v' t' hm' hw => ⟨?_, fun _ => Nat.zero_le _⟩⟩
  cases m' with
  | zero =>
    obtain rfl := Option.some.inj hm'
    obtain ⟨-, rfl⟩ := h.unique hw
    exact le_rfl
  | succ m' => exact hrest sl' (List.mem_of_getElem? hm') v' t' hw

/-- What a search finds is the oldest waiting ticket (R153). -/
theorem oldestAt_of_oldestFrom {l : List Slot} {i j k : Nat} (h : oldestFrom p c l i = some (j, k)) :
    ∃ m, j = i + m ∧ OldestAt p c l m k := by
  induction l generalizing i j k with
  | nil => cases h
  | cons sl rest ih =>
    by_cases hw : ∃ v t, sl.Waits p v t
    · obtain ⟨v, t, hw⟩ := hw
      cases hrest : oldestFrom p c rest (i + 1) with
      | none =>
        rw [oldestFrom_of_none hw hrest] at h
        obtain ⟨rfl, rfl⟩ := Prod.mk.inj (Option.some.inj h)
        exact ⟨0, rfl, oldestAt_zero hw fun sl' hsl' v' t' hw' =>
          absurd hw' (oldestFrom_eq_none hrest sl' hsl' v' t')⟩
      | some found =>
        obtain ⟨j', k'⟩ := found
        obtain ⟨m, rfl, hm⟩ := ih hrest
        rw [oldestFrom_of_some hw hrest] at h
        split at h
        · next holder =>
          obtain ⟨rfl, rfl⟩ := Prod.mk.inj (Option.some.inj h)
          refine ⟨m + 1, by omega, hm.cons fun v' t' hw' => ?_⟩
          obtain ⟨-, rfl⟩ := hw.unique hw'
          exact holder
        · next hyounger =>
          obtain ⟨rfl, rfl⟩ := Prod.mk.inj (Option.some.inj h)
          refine ⟨0, rfl, oldestAt_zero hw fun sl' hsl' v' t' hw' => ?_⟩
          obtain ⟨m', hm'⟩ := List.getElem?_of_mem hsl'
          exact (hm.2 m' sl' v' t' hm' hw').1.trans (not_lt.1 hyounger)
    · simp only [not_exists] at hw
      rw [oldestFrom_skip hw] at h
      obtain ⟨m, rfl, hm⟩ := ih h
      exact ⟨m + 1, by omega, hm.cons fun v t hwait => absurd hwait (hw v t)⟩

end Search

/-! ### The oldest ticket of the register -/

section Oldest

variable {s : State} {p : PrinterId} {n : Nat} {v : Visit} {t : Ticket}

/-- What the register's search finds is the printer's oldest waiting ticket (R153). -/
theorem oldest_of_oldestWaiting {k : Nat} (h : s.oldestWaiting p = some (n, k)) :
    ∃ v t, s.Oldest p n v t ∧ t.number = k := by
  obtain ⟨m, hn, ⟨sl, v, t, hsl, hw, rfl⟩, hleast⟩ := oldestAt_of_oldestFrom h
  obtain rfl : n = m := by omega
  refine ⟨v, t, ⟨State.waits_iff.2 ⟨sl, hsl, hw⟩, fun m' u x hx => ?_, fun m' u x hx => ?_⟩, rfl⟩
  all_goals obtain ⟨sl', hsl', hw'⟩ := State.waits_iff.1 hx
  · exact (hleast m' sl' u x hsl' hw').1
  · exact (hleast m' sl' u x hsl' hw').2

/-- The search finds a ticket wherever one waits (R153). -/
theorem oldestWaiting_isSome (h : s.Waits p n v t) : (s.oldestWaiting p).isSome = true := by
  obtain ⟨sl, hsl, hw⟩ := State.waits_iff.1 h
  rw [Option.isSome_iff_ne_none]
  exact fun hnone => oldestFrom_eq_none hnone sl (List.mem_of_getElem? hsl) v t hw

theorem State.Oldest.waits (h : s.Oldest p n v t) : s.Waits p n v t := h.1

/-- The search finds the printer's oldest waiting ticket, for there is only one (R153). -/
theorem State.Oldest.oldestWaiting (h : s.Oldest p n v t) : s.oldestWaiting p = some (n, t.number) := by
  obtain ⟨hwaits, hage, hlow⟩ := h
  obtain ⟨⟨n', k⟩, hfound⟩ := Option.isSome_iff_exists.1 (oldestWaiting_isSome hwaits)
  obtain ⟨v', t', ⟨hwaits', hage', hlow'⟩, rfl⟩ := oldest_of_oldestWaiting hfound
  have hsame := (hage n' v' t' hwaits').antisymm (hage' n v t hwaits)
  obtain rfl : n = n' := (hlow n' v' t' hwaits' hsame).antisymm (hlow' n v t hwaits hsame.symm)
  obtain ⟨hv, hst, -⟩ := hwaits
  obtain ⟨hv', hst', -⟩ := hwaits'
  obtain rfl := Option.some.inj (hv.symm.trans hv')
  obtain rfl := VisitState.closed.inj (hst.symm.trans hst')
  exact hfound

/-- A printer is a candidate where it is IN_SERVICE and a ticket waits for it (R154). -/
theorem candidate_iff : s.candidate p = true ↔ (s.printer p).state = .inService ∧ ∃ n v t, s.Waits p n v t := by
  rw [State.candidate, Bool.and_eq_true, beq_iff_eq]
  refine and_congr_right fun _ => ⟨fun h => ?_, fun ⟨n, v, t, h⟩ => oldestWaiting_isSome h⟩
  obtain ⟨⟨n, k⟩, hfound⟩ := Option.isSome_iff_exists.1 h
  obtain ⟨v, t, ⟨hwaits, -⟩, -⟩ := oldest_of_oldestWaiting hfound
  exact ⟨n, v, t, hwaits⟩

/-- A candidate has an oldest waiting ticket (R153, R154). -/
theorem exists_oldest (h : s.candidate p = true) : ∃ n v t, s.Oldest p n v t := by
  obtain ⟨-, n, v, t, hwaits⟩ := candidate_iff.1 h
  obtain ⟨⟨n', k⟩, hfound⟩ := Option.isSome_iff_exists.1 (oldestWaiting_isSome hwaits)
  obtain ⟨v', t', holdest, -⟩ := oldest_of_oldestWaiting hfound
  exact ⟨n', v', t', holdest⟩

end Oldest

end Sys2Proof.Machine
end

section
/-! PROOFS. The print arbiter: whom it chooses, what a start and a fault at the selection leave, and that three choices
settle an event (R153 to R156, R158). -/

namespace Sys2Proof.Machine

/-! ### The choice (R154) -/

section Choice

variable {s : State} {p : PrinterId}

theorem chosen_of_candidate (hp : s.candidate p = true)
    (hother : p = s.printing.lastServed → s.candidate p.other = false) : s.chosen = some p := by
  unfold State.chosen
  dsimp only
  by_cases hlast : p = s.printing.lastServed
  · rw [← hlast, hother hlast, if_neg Bool.false_ne_true, if_pos hp]
  · have hnext : s.printing.lastServed.other = p := by
      revert hlast
      cases p <;> cases s.printing.lastServed <;> simp [PrinterId.other]
    rw [hnext, if_pos hp]

theorem candidate_of_chosen (h : s.chosen = some p) : s.candidate p = true := by
  unfold State.chosen at h
  dsimp only at h
  split at h
  · next hc => rwa [Option.some.inj h] at hc
  · split at h
    · next hc => rwa [Option.some.inj h] at hc
    · cases h

theorem chosen_eq_none (h : ∀ p, s.candidate p = false) : s.chosen = none := by
  simp [State.chosen, h]

/-- The arbiter makes no choice while a job is in progress (R154). -/
theorem arbitrate_busy (h : s.printing.job ≠ none) (fuel : Nat) : s.arbitrate fuel = s := by
  cases fuel with
  | zero => rfl
  | succ fuel =>
    rw [State.arbitrate]
    split
    · next hnone _ => exact absurd hnone h
    · rfl

/-- The arbiter makes no choice without a candidate (R154). -/
theorem arbitrate_unchosen (h : s.chosen = none) (fuel : Nat) : s.arbitrate fuel = s := by
  cases fuel with
  | zero => rfl
  | succ fuel =>
    rw [State.arbitrate, h]
    split
    · next hsome => cases hsome
    · rfl

end Choice

/-! ### The start of a job and the fault at its selection (R155, R156, R158) -/

/-- The state after a job's start (R155, R156). -/
def State.jobStarted (s : State) (p : PrinterId) (n : Nat) (v : Visit) (t : Ticket) : State :=
  let t' : Ticket := { t with mark := .printing, attempts := min 15 (t.attempts + 1) }
  { s with
    register := { s.register with
      slots := s.register.slots.set n ⟨(s.slot n).revision + 1, some { v with state := .closed t' }⟩ }
    printing := { s.printing with
      printers := s.printing.printers.set p { s.printing.printers.get p with state := .printing, hold := false }
      lastServed := p
      job := some { printer := p, slot := n, ticket := t.number, copy := t'.attempts, frame := ticketFrame p v t'
                    sent := 0, times := s.printing.times
                    phase := if (s.printing.printers.get p).pins.busy = true then .waitBusy (s.now + 2000000)
                      else .setup (s.now + s.printing.times.setup) } } }

/-- The state after a job's start and its fault at the selection: the slot is written twice (R62, R158; log 13). -/
def State.selectionFailed (s : State) (p : PrinterId) (n : Nat) (v : Visit) (t : Ticket) : State :=
  let t' : Ticket := { t with attempts := min 15 (t.attempts + 1) }
  State.raise { s with
    register := { s.register with
      slots := s.register.slots.set n ⟨(s.slot n).revision + 2, some { v with state := .closed t' }⟩ }
    printing := { s.printing with
      printers := s.printing.printers.set p { s.printing.printers.get p with
        state := .outOfService, hold := false, lastFault := some .faultLine }
      lastServed := p } } .printerFault (.printer p)

/-- The ticket after a start that failed at its selection: the attempt counts (R62). -/
def Ticket.attempted (t : Ticket) : Ticket := { t with attempts := min 15 (t.attempts + 1) }

/-- A visit is another one with a ticket of another mark. -/
theorem withTicket_ne {v : Visit} {t t' : Ticket} (ht : v.state = .closed t) (hmark : t'.mark ≠ t.mark) :
    some v ≠ some (v.withTicket t') := fun hsame => by
  have hstate : v.state = .closed t' := congrArg Visit.state (Option.some.inj hsame)
  rw [ht] at hstate
  exact hmark (congrArg Ticket.mark (VisitState.closed.inj hstate)).symm

/-- A write to a ticket that is PRINTING (R62). -/
theorem writePrinting_closed {s : State} {n : Nat} {v : Visit} {t : Ticket} (hv : s.visit n = some v)
    (ht : v.state = .closed t) (hmark : t.mark = .printing) (m : PrintMark) :
    s.writePrinting n m = s.writeSlot n (v.afterTicket { t with mark := m }) := by
  simp only [State.writePrinting, hv, ht, hmark, if_true]

section Start

variable {s : State} {p : PrinterId} {n : Nat} {v : Visit} {t : Ticket}

theorem startJob_eq (h : s.Waits p n v t) : s.startJob p n v t = s.jobStarted p n v t := by
  obtain ⟨hv, hst, -, hmark⟩ := h
  have hne : s.visit n ≠ some (v.withTicket t.started) := by
    rw [hv]
    exact withTicket_ne hst (by rw [hmark]; exact PrintMark.noConfusion)
  unfold State.startJob
  rw [writeSlot_of_ne hne]
  rfl

theorem slot_jobStarted (hn : n < s.register.slots.length) : (s.jobStarted p n v t).slot n =
    ⟨(s.slot n).revision + 1, some (v.withTicket t.started)⟩ := by
  simp only [State.slot, State.jobStarted, List.getD_eq_getElem?_getD, List.getElem?_set_self hn, Option.getD_some]
  rfl

/-- The fault of a job just started takes its mark back to UNPRINTED, with a second write of the slot (R62, R158). -/
theorem writePrinting_jobStarted (h : s.Waits p n v t) : (s.jobStarted p n v t).writePrinting n .unprinted =
    { s.jobStarted p n v t with
      register := { s.register with
        slots := s.register.slots.set n ⟨(s.slot n).revision + 2, some (v.withTicket t.attempted)⟩ } } := by
  obtain ⟨hv, -, -, hmark⟩ := h
  have hslot := slot_jobStarted (p := p) (v := v) (t := t) (lt_of_visit hv)
  have hvisit : (s.jobStarted p n v t).visit n = some (v.withTicket t.started) := by rw [State.visit, hslot]
  have hback : (v.withTicket t.started).afterTicket { t.started with mark := .unprinted } =
      some (v.withTicket t.attempted) := by
    rw [afterTicket_eq, if_neg (by simp), Ticket.started, ← hmark]
    rfl
  have hne : (s.jobStarted p n v t).visit n ≠ some (v.withTicket t.attempted) := by
    rw [hvisit]
    exact withTicket_ne (t' := t.attempted) rfl (hmark.trans_ne PrintMark.noConfusion)
  have hrevision : (s.slot n).revision + 1 + 1 = (s.slot n).revision + 2 := by rw [add_assoc]; rfl
  rw [writePrinting_closed hvisit rfl rfl, hback, writeSlot_of_ne hne, hslot, hrevision]
  simp only [State.jobStarted, List.set_set]

/-- The fault of a job just started (R158). -/
theorem failJob_jobStarted (hjob : s.printing.job = none) (h : s.Waits p n v t) {j : Job} (hp : j.printer = p)
    (hn : j.slot = n) : (s.jobStarted p n v t).failJob j .faultLine = s.selectionFailed p n v t := by
  have hset (x : PerPrinter Printer) (a b : Printer) : (x.set p a).set p b = x.set p b := by cases p <;> rfl
  unfold State.failJob
  rw [hp, hn, writePrinting_jobStarted h]
  simp only [State.jobStarted, State.setPrinter, State.setJob, State.setPrinting, State.printer, State.raise,
    State.selectionFailed, perPrinter_get_set, if_true, hset, hjob]
  rfl

/-- One choice of the arbiter for a printer with its oldest waiting ticket (R154 to R156, R158). -/
theorem arbitrate_chosen (hjob : s.printing.job = none) (hp : s.chosen = some p) (h : s.Oldest p n v t) (fuel : Nat) :
    s.arbitrate (fuel + 1) = if (s.printer p).pins.fault = true then (s.selectionFailed p n v t).arbitrate fuel
      else s.jobStarted p n v t := by
  have hwaits := h.waits
  obtain ⟨hv, hst, -⟩ := hwaits
  have hpins : ((s.jobStarted p n v t).printer p).pins = (s.printer p).pins := by
    simp [State.jobStarted, State.printer]
  rw [State.arbitrate]
  simp only [hjob, hp, h.oldestWaiting, hv, hst, startJob_eq h.waits]
  split
  · next j hj =>
    obtain rfl := Option.some.inj hj
    rw [hpins, failJob_jobStarted hjob h.waits rfl rfl]
  · next hnone => cases hnone

end Start

/-! ### Three choices settle an event -/

theorem printer_selectionFailed (s : State) (p q : PrinterId) (n : Nat) (v : Visit) (t : Ticket) :
    ((s.selectionFailed p n v t).printer q).state = if q = p then .outOfService else (s.printer q).state := by
  simp only [State.selectionFailed, State.printer, State.raise, perPrinter_get_set]
  split <;> rfl

theorem arbitrate_outOfService {s : State} (h : ∀ p, (s.printer p).state ≠ .inService) (fuel : Nat) :
    s.arbitrate fuel = s :=
  arbitrate_unchosen (chosen_eq_none fun p => Bool.eq_false_iff.2 fun hp => h p (candidate_iff.1 hp).1) fuel

/-- With one printer out of service a single choice settles the event, for a fault at it takes the other one out too. -/
theorem arbitrate_one {s : State} {p : PrinterId} (h : (s.printer p).state ≠ .inService) (fuel : Nat) :
    s.arbitrate (fuel + 1) = s.arbitrate 1 := by
  by_cases hjob : s.printing.job = none
  · cases hq : s.chosen with
    | none => rw [arbitrate_unchosen hq, arbitrate_unchosen hq]
    | some q =>
      have hcandidate := candidate_of_chosen hq
      obtain ⟨n, v, t, holdest⟩ := exists_oldest hcandidate
      have hne : p ≠ q := fun hpq => h (hpq ▸ (candidate_iff.1 hcandidate).1)
      have hdown : ∀ r, ((s.selectionFailed q n v t).printer r).state ≠ .inService := by
        intro r
        rw [printer_selectionFailed]
        split
        · exact PrinterState.noConfusion
        · next hr =>
          have hrp : r = p := by revert hr hne; cases r <;> cases p <;> cases q <;> simp
          rwa [hrp]
      rw [arbitrate_chosen hjob hq holdest, arbitrate_chosen hjob hq holdest, arbitrate_outOfService hdown,
        arbitrate_outOfService hdown]
  · rw [arbitrate_busy hjob, arbitrate_busy hjob]

/-- The arbiter's choice for a printer with its oldest waiting ticket (R154 to R156, R158). -/
theorem serveBus_chosen {s : State} {p : PrinterId} {n : Nat} {v : Visit} {t : Ticket} (hjob : s.printing.job = none)
    (hp : s.chosen = some p) (h : s.Oldest p n v t) : s.serveBus =
      if (s.printer p).pins.fault = true then (s.selectionFailed p n v t).serveBus else s.jobStarted p n v t := by
  have hout : ((s.selectionFailed p n v t).printer p).state ≠ .inService := by
    rw [printer_selectionFailed, if_pos rfl]
    exact PrinterState.noConfusion
  rw [State.serveBus, arbitrate_chosen hjob hp h, arbitrate_one hout 1, State.serveBus, arbitrate_one hout 2]

/-- Settles O47: the bytes field by field, then the arbiter by its candidates and the oldest ticket of the chosen
one. -/
theorem arbiterStartsTheOldestTicket : Obligations.ArbiterStartsTheOldestTicket := by
  refine ⟨fun n x => ⟨bytesOfInt_length n x, natOfBytes_bytesOfInt n x⟩, fun _ _ => rfl, fun p v t => ?_,
    fun s => ?_⟩
  · intro f deck origin weighing
    have hweighing (w : Weighing) : w.ticketBytes = weighing w := by
      obtain ⟨-, d, -, o⟩ := w
      cases d <;> cases o <;> rfl
    have htag : v.tag.elim 0 (fun x => x.toNat) = (v.tag.getD 0).toNat := by cases v.tag <;> rfl
    have haccount : v.account.elim 0 (fun x => x.toNat) = (v.account.getD 0).toNat := by cases v.account <;> rfl
    have hbits (a b : Bool) : bytesOfNat 1 (bit a + 2 * bit b) = [(if a then 1 else 0) + (if b then 2 else 0)] := by
      cases a <;> cases b <;> rfl
    rw [htag, haccount, ← hbits, ← hbits, ← hweighing, ← hweighing]
    exact ⟨ticketFrame_length p v t, slice_ticketFrame 0 rfl, slice_ticketFrame 1 rfl, slice_ticketFrame 2 rfl,
      slice_ticketFrame 3 (by cases p <;> rfl), slice_ticketFrame 4 rfl, slice_ticketFrame 5 rfl,
      slice_ticketFrame 6 rfl, slice_ticketFrame 7 rfl, slice_ticketFrame 8 rfl,
      slice_ticketFrame 9 (by unfold ticketFields; cases v.direction <;> rfl), slice_ticketFrame 10 rfl,
      slice_ticketFrame 11 rfl, slice_ticketFrame 12 rfl, slice_ticketFrame 13 rfl, slice_ticketFrame 14 rfl,
      slice_ticketFrame 15 rfl, slice_ticketFrame_check p v t⟩
  · intro waits age candidate oldest started failed
    have hcandidate (p : PrinterId) : candidate p ↔ s.candidate p = true := candidate_iff.symm
    refine ⟨fun hjob => arbitrate_busy hjob 3, fun _ hnone => ?_, fun p n v t hjob hp hother holdest => ?_⟩
    · exact arbitrate_unchosen (chosen_eq_none fun p => Bool.eq_false_iff.2 fun hp => hnone p ((hcandidate p).2 hp)) 3
    · exact serveBus_chosen hjob (chosen_of_candidate ((hcandidate p).1 hp) fun hlast =>
        Bool.eq_false_iff.2 fun hc => hother hlast ((hcandidate p.other).2 hc)) holdest

end Sys2Proof.Machine
end

section
/-! PROOFS. The outcomes of a job, the transfer of a ticket frame and the lines of the bus (R150, R156 to R158). -/

namespace Sys2Proof.Machine

/-! ### The outcomes of a job (R62, R157, R158) -/

/-- A write to the slot of a ticket that is PRINTING; else nothing is applied (R62). -/
def State.rewritePrinting (s : State) (n : Nat) (f : Visit → Ticket → Option Visit) : State :=
  match s.visit n with
  | some v => match v.state with
    | .closed k => if k.mark = .printing then s.writeSlot n (f v k) else s
    | _ => s
  | none => s

/-- The end of the job in progress, with its printer written. -/
def State.leaveJob (s : State) (p : PrinterId) (x : Printer) : State :=
  { s with printing := { s.printing with printers := s.printing.printers.set p x, job := none } }

theorem writePrinting_eq (s : State) (n : Nat) (m : PrintMark) : s.writePrinting n m =
    s.rewritePrinting n fun v k => v.afterTicket { k with mark := m } := rfl

theorem writePrinting_unprinted (s : State) (n : Nat) : s.writePrinting n .unprinted =
    s.rewritePrinting n fun v k => some { v with state := .closed { k with mark := .unprinted } } := by
  simp [writePrinting_eq, afterTicket_eq]

theorem writePrinting_printed (s : State) (n : Nat) : s.writePrinting n .printed =
    s.rewritePrinting n fun v k =>
      if k.collected = true then none else some { v with state := .closed { k with mark := .printed } } := by
  simp [writePrinting_eq, afterTicket_eq]

theorem rewritePrinting_printing (s : State) (n : Nat) (f : Visit → Ticket → Option Visit) :
    (s.rewritePrinting n f).printing = s.printing := by
  unfold State.rewritePrinting
  split
  · split
    · split <;> rfl
    · rfl
  · rfl

/-- A job fault (R158). -/
theorem faultJob_eq (s : State) (j : Job) (c : FaultCause) : s.faultJob j c =
    (((s.rewritePrinting j.slot fun v k => some { v with state := .closed { k with mark := .unprinted } }).leaveJob
      j.printer { s.printing.printers.get j.printer with
        state := .outOfService, hold := false, lastFault := some c }).raise
          .printerFault (.printer j.printer)).serveBus := by
  have hprinting := rewritePrinting_printing s j.slot
    fun v k => some { v with state := .closed { k with mark := .unprinted } }
  rw [State.faultJob, State.failJob, writePrinting_unprinted, State.printer, hprinting]
  rfl

/-- A job's DONE (R157). -/
theorem finishJob_eq (s : State) (j : Job) : s.finishJob j =
    ((s.rewritePrinting j.slot fun v k =>
      if k.collected = true then none else some { v with state := .closed { k with mark := .printed } }).leaveJob
        j.printer { s.printing.printers.get j.printer with
          state := if (s.printing.printers.get j.printer).hold = true then .held else .inService
          hold := false }).serveBus := by
  have hprinting := rewritePrinting_printing s j.slot
    fun v k => if k.collected = true then none else some { v with state := .closed { k with mark := .printed } }
  rw [State.finishJob, State.endJob, writePrinting_printed, State.printer, hprinting]
  rfl

theorem rewritePrinting_setJob (s : State) (x : Option Job) (n : Nat) (f : Visit → Ticket → Option Visit) :
    (s.setJob x).rewritePrinting n f = (s.rewritePrinting n f).setJob x := by
  have hvisit : (s.setJob x).visit n = s.visit n := rfl
  unfold State.rewritePrinting
  rw [hvisit]
  split
  · split
    · split <;> rfl
    · rfl
  · rfl

/-- A job fault reads of its job the printer and the slot alone, and ends the job in progress whatever it is (R158). -/
theorem faultJob_setJob (s : State) (x : Option Job) (j : Job) (n : Nat) (phase : JobPhase) (c : FaultCause) :
    (s.setJob x).faultJob { j with sent := n, phase := phase } c = s.faultJob j c := by
  rw [faultJob_eq, faultJob_eq, rewritePrinting_setJob]
  rfl

/-! ### The transfer (R156, R157; log 18) -/

/-- The job after a byte: the next byte waits or is set up, and after the last one the completion wait begins. -/
def State.byteSent (s : State) (j : Job) : Job :=
  { j with
    sent := j.sent + 1
    phase := if j.frame.length ≤ j.sent + 1 then .completing (s.now + j.times.completion * 1000000)
      else if (s.printing.printers.get j.printer).pins.busy = true then .waitBusy (s.now + 2000000)
      else .setup (s.now + j.times.setup) }

/-- The end of a byte: a fault line that is active at the deselection after the last byte faults the job (R156,
R157). -/
theorem byteEnd_eq (s : State) (j : Job) : s.byteEnd j =
    if j.frame.length ≤ j.sent + 1 ∧ (s.printing.printers.get j.printer).pins.fault = true then
      s.faultJob j .faultLine
    else s.setJob (some (s.byteSent j)) := by
  unfold State.byteEnd
  by_cases hlast : j.frame.length ≤ j.sent + 1
  · simp only [if_neg (not_lt.2 hlast), hlast, true_and, State.byteSent, if_true]
    rw [faultJob_setJob]
    rfl
  · simp only [if_pos (not_le.1 hlast), hlast, false_and, State.byteSent, if_false]
    rfl

section Job

variable {s : State} {j : Job} {q : PrinterId}

/-- The lapse of the timer of the job's phase (R156, R157; log 3). -/
theorem event_jobLapse (hp : s.powered = true) (hj : s.printing.job = some j) {due : JobPhase → Option Nat} {n : Nat}
    (hdue : due j.phase = some n) (f : State → Job → State) :
    event (fun s => s.jobLapse due f) s = .next (f (s.reach n) j) := by
  simp only [event_powered _ s hp, State.jobLapse, hj, hdue]

/-- Without a job no timer of the bus runs (log 4). -/
theorem event_jobLapse_idle (hp : s.powered = true) (hj : s.printing.job = none) (due : JobPhase → Option Nat)
    (f : State → Job → State) : event (fun s => s.jobLapse due f) s = .next s := by
  simp only [event_powered _ s hp, State.jobLapse, hj]

/-! ### The inputs (R150, R156, R157; log 4) -/

theorem setPins_self (s : State) (q : PrinterId) : s.setPins q (s.printer q).pins = s := by
  have hset (x : PerPrinter Printer) : x.set q (x.get q) = x := by cases q <;> rfl
  simp only [State.setPins, State.setPrinter, State.setPrinting, State.printer, hset]

/-- A level that is already there is the level written (log 4). -/
theorem ite_setPins {old active : Bool} {x : PrinterPins} (h : old = active → (s.printer q).pins = x) :
    (if old = active then s else s.setPins q x) = s.setPins q x :=
  ite_eq_right_iff.2 fun hsame => by rw [← h hsame, setPins_self]

theorem exec_pbusyChange (hp : s.powered = true) (active : Bool) : exec (.pbusyChange q active) s = .next (
    if (s.printer q).pins.busy = active then s
    else match s.printing.job with
      | some j => match j.phase with
        | .waitBusy _ => if q = j.printer ∧ active = false then
            (s.setPins q { (s.printer q).pins with busy := active }).setJob
              (some { j with phase := .setup (s.now + j.times.setup) })
          else s.setPins q { (s.printer q).pins with busy := active }
        | _ => s.setPins q { (s.printer q).pins with busy := active }
      | none => s.setPins q { (s.printer q).pins with busy := active }) := by
  simp only [eq_comm (a := q)]
  change execPbusyChange q active s = _
  exact event_powered _ s hp

theorem exec_pfltChange (hp : s.powered = true) (active : Bool) : exec (.pfltChange q active) s = .next (
    if (s.printer q).pins.fault = active then s
    else match s.printing.job with
      | some j => if q = j.printer ∧ active = true then
          (s.setPins q { (s.printer q).pins with fault := active }).faultJob j .faultLine
        else s.setPins q { (s.printer q).pins with fault := active }
      | none => s.setPins q { (s.printer q).pins with fault := active }) := by
  simp only [eq_comm (a := q)]
  change execPfltChange q active s = _
  exact event_powered _ s hp

theorem exec_pdoneChange (hp : s.powered = true) (active : Bool) : exec (.pdoneChange q active) s = .next (
    if (s.printer q).pins.done = active then s
    else match s.printing.job with
      | some j => match j.phase with
        | .completing _ => if q = j.printer ∧ active = true then
            (s.setPins q { (s.printer q).pins with done := active }).finishJob j
          else s.setPins q { (s.printer q).pins with done := active }
        | _ => s.setPins q { (s.printer q).pins with done := active }
      | none => s.setPins q { (s.printer q).pins with done := active }) := by
  simp only [eq_comm (a := q)]
  change execPdoneChange q active s = _
  exact event_powered _ s hp

end Job

/-! ### The lines of the bus (R150, R156; log 29) -/

section Lines

variable {c : Printing} {j : Job}

theorem selected_iff (h : c.job = some j) (q : PrinterId) :
    c.selected q = true ↔ q = j.printer ∧ ∀ due, j.phase ≠ .completing due := by
  simp only [Printing.selected, h, eq_comm (a := q)]
  cases j.phase <;> simp

theorem strobe_iff (h : c.job = some j) : c.strobe = true ↔ ∃ due, j.phase = .strobe due := by
  simp only [Printing.strobe, h]
  cases j.phase <;> simp

theorem data_eq (h : c.job = some j) : c.data = match j.phase with
    | .waitBusy _ => if j.sent = 0 then 0 else byteAt j.frame (j.sent - 1)
    | .setup _ | .strobe _ | .hold _ => byteAt j.frame j.sent
    | .completing _ => 0 := by
  simp only [Printing.data, h]
  cases j.phase <;> rfl

/-- With no job the lines rest. -/
theorem lines_idle (h : c.job = none) : (∀ q, c.selected q = false) ∧ c.strobe = false ∧ c.data = 0 := by
  simp [Printing.selected, Printing.strobe, Printing.data, h]

end Lines

/-- Settles O48: the part without a job, the lines, then the lapses and the inputs by the phase of the job. -/
theorem jobsRunToTheirOutcome : Obligations.JobsRunToTheirOutcome := by
  refine ⟨fun s hp hj => ?_, fun c j hj => ⟨selected_iff hj, strobe_iff hj, data_eq hj⟩, fun s j hp hj => ?_⟩
  · intro c pinned
    obtain ⟨hselected, hstrobe, hdata⟩ := lines_idle (c := c) hj
    refine ⟨hselected, hstrobe, hdata, ?_, fun q active => ⟨?_, ?_, ?_⟩⟩
    · simp only [List.forall_mem_cons]
      exact ⟨event_jobLapse_idle hp hj _ _, event_jobLapse_idle hp hj _ _, event_jobLapse_idle hp hj _ _,
        event_jobLapse_idle hp hj _ _, event_jobLapse_idle hp hj _ _, by simp⟩
    · rw [exec_pbusyChange hp, hj]
      exact congrArg _ (ite_setPins fun hsame => by rw [← hsame])
    · rw [exec_pfltChange hp, hj]
      exact congrArg _ (ite_setPins fun hsame => by rw [← hsame])
    · rw [exec_pdoneChange hp, hj]
      exact congrArg _ (ite_setPins fun hsame => by rw [← hsame])
  · intro p put pinned wrote outcome faulted finished sent at'
    have hfaulted (t : State) (c : FaultCause) : t.faultJob j c = faulted t c := faultJob_eq t j c
    have hfinished (t : State) : t.finishJob j = finished t := finishJob_eq t j
    have hsent (t : State) : t.byteEnd j = sent t := by
      rw [byteEnd_eq, hfaulted]
      rfl
    refine ⟨fun due hphase => ?_, fun due hphase => ?_, fun due hphase => ?_, fun due hphase => ?_,
      fun due hphase => ?_, fun q active => ⟨?_, ?_, ?_⟩⟩
    · exact event_jobLapse hp hj (by rw [hphase]) _
    · rw [← hsent]
      exact event_jobLapse hp hj (by rw [hphase]) _
    · rw [← hsent]
      exact event_jobLapse hp hj (by rw [hphase]) _
    · rw [← hfaulted]
      exact event_jobLapse hp hj (by rw [hphase]) _
    · rw [← hfaulted]
      exact event_jobLapse hp hj (by rw [hphase]) _
    · rw [exec_pbusyChange hp, hj]
      rfl
    · rw [exec_pfltChange hp, hj, ← hfaulted]
      rfl
    · rw [exec_pdoneChange hp, hj, ← hfinished]
      rfl

end Sys2Proof.Machine
end

section
/-! PROOFS. The Notice Unit: the kinds by their codes, one line written, the first pending kind, and the requests that
change the pending set (R167 to R169, R171, R172). -/

namespace Sys2Proof.Machine

/-! ### Kinds and levels by their codes (R167, R184) -/

theorem all_order (k : NoticeKind) : NoticeKind.all[k.order]? = some k := by
  cases k <;> rfl

/-- The code of a kind is its order number. -/
theorem order_of_noticeKindOf {b : Byte} {k : NoticeKind} (h : noticeKindOf b = some k) : k.order = b.toNat := by
  have hlt : b.toNat < 16 := (List.getElem?_eq_some_iff.1 h).1
  have horders : NoticeKind.all.map NoticeKind.order = List.range 16 := rfl
  have hrange : (List.range 16)[b.toNat]? = some k.order := by
    rw [← horders, List.getElem?_map, show NoticeKind.all[b.toNat]? = some k from h]
    rfl
  rw [List.getElem?_range hlt] at hrange
  exact (Option.some.inj hrange).symm

theorem noticeKindOf_eq_none_iff {b : Byte} : noticeKindOf b = none ↔ 16 ≤ b.toNat :=
  List.getElem?_eq_none_iff

theorem levelOf_eq (b : Byte) : levelOf b =
    if b = 1 ∨ b = 2 then some (if b = 1 then .urgent else .routine) else none := by
  unfold levelOf
  by_cases hurgent : b = 1
  · rw [if_pos hurgent, if_pos (Or.inl hurgent), if_pos hurgent]
  · simp only [hurgent, false_or, if_false]

/-! ### One line written (R168, R169) -/

theorem modify_eq_set_of_getElem? {α : Type} {xs : List α} {i : Nat} {x : α} (h : xs[i]? = some x) (f : α → α) :
    xs.modify i f = xs.set i (f x) := by
  rw [List.modify_eq_set_getElem?, h]
  rfl

/-- One line of the Notice Unit replaced. -/
def State.putNotice (s : State) (i : Nat) (l : NoticeLine) : State := { s with notices := s.notices.set i l }

section Lines

variable {s : State} {k : NoticeKind} {l : NoticeLine}

theorem raise_eq (hl : s.notices[k.order]? = some l) (x : Detail) :
    s.raise k x = if l.enable = true then s.putNotice k.order { l with detail := some x } else s := by
  have hset : s.raise k x = s.putNotice k.order (l.take x) :=
    congrArg (fun n => { s with notices := n }) (modify_eq_set_of_getElem? hl _)
  rw [hset]
  by_cases henable : l.enable = true
  · rw [if_pos henable, take_enabled henable]
  · have hoff : l.take x = l := if_neg henable
    obtain ⟨hlt, rfl⟩ := List.getElem?_eq_some_iff.1 hl
    rw [if_neg henable, hoff, State.putNotice, List.set_getElem_self]

theorem dropNotice_eq (hl : s.notices[k.order]? = some l) :
    s.dropNotice k = s.putNotice k.order { l with detail := none } :=
  congrArg (fun n => { s with notices := n }) (modify_eq_set_of_getElem? hl _)

/-- A kind that leaves the pending set is one kind less there (R171). -/
theorem pendingCount_dropNotice (hl : s.notices[k.order]? = some l) (hpends : l.detail.isSome = true) :
    (s.dropNotice k).pendingCount = s.pendingCount - 1 := by
  obtain ⟨hlt, hget⟩ := List.getElem?_eq_some_iff.1 hl
  rw [dropNotice_eq hl, State.pendingCount, State.putNotice, List.countP_set hlt, hget]
  simp [hpends, State.pendingCount]

end Lines

/-! ### The first pending kind (R171) -/

/-- The kind of order number `i` is pending with its line and its detail (R169). -/
def State.Pends (s : State) (i : Nat) (l : NoticeLine) (x : Detail) : Prop := s.notices[i]? = some l ∧ l.detail = some x

/-- No pending kind comes before the one of order number `i` on line `l`: none of its level has a lower number, and none is
URGENT unless it is (R171). -/
def State.FirstAt (s : State) (i : Nat) (l : NoticeLine) : Prop := ∀ m n y, s.Pends m n y →
  (n.level = l.level → i ≤ m) ∧ (n.level = .urgent → l.level = .urgent)

section Choice

variable {s : State} {v : Level} {k : NoticeKind} {l : NoticeLine} {x : Detail}

theorem pending_of_level_iff : (l.detail.isSome && l.level == v) = true ↔ (∃ x, l.detail = some x) ∧ l.level = v := by
  rw [Bool.and_eq_true, Option.isSome_iff_exists, beq_iff_eq]

theorem firstPending_eq_none (h : ∀ m n y, s.Pends m n y → n.level ≠ v) : s.firstPending v = none := by
  refine List.find?_eq_none.2 fun p hp hpending => ?_
  obtain ⟨m, hm⟩ := List.mem_iff_getElem?.1 hp
  obtain ⟨-, hline⟩ := List.getElem?_zip_eq_some.1 hm
  obtain ⟨⟨y, hy⟩, hlevel⟩ := pending_of_level_iff.1 hpending
  exact h m p.2 y ⟨hline, hy⟩ hlevel

theorem firstPending_eq_some (h : s.Pends k.order l x)
    (hfirst : ∀ m n y, s.Pends m n y → n.level = l.level → k.order ≤ m) : s.firstPending l.level = some (k, l) := by
  obtain ⟨hl, hx⟩ := h
  obtain ⟨hlt, hget⟩ := List.getElem?_eq_some_iff.1 (List.getElem?_zip_eq_some (z := (k, l)).2 ⟨all_order k, hl⟩)
  refine List.find?_eq_some_iff_getElem.2 ⟨pending_of_level_iff.2 ⟨⟨x, hx⟩, rfl⟩, k.order, hlt, hget, fun m hm => ?_⟩
  rw [Bool.not_eq_true', Bool.eq_false_iff]
  intro hpending
  obtain ⟨-, hline⟩ := List.getElem?_zip_eq_some.1 (List.getElem?_eq_getElem (hm.trans hlt))
  obtain ⟨⟨y, hy⟩, hlevel⟩ := pending_of_level_iff.1 hpending
  exact absurd (hfirst m _ y ⟨hline, hy⟩ hlevel) (not_le.2 hm)

/-- The lowest URGENT kind goes first; a ROUTINE kind is first only with no URGENT kind pending. -/
theorem firstNotice_eq_some (h : s.Pends k.order l x) (hfirst : s.FirstAt k.order l) : s.firstNotice = some (k, l) := by
  have hchosen := firstPending_eq_some h fun m n y hn => (hfirst m n y hn).1
  cases hlevel : l.level with
  | urgent => rw [State.firstNotice, ← hlevel, hchosen, Option.some_or]
  | routine =>
    have hurgent : s.firstPending .urgent = none := firstPending_eq_none fun m n y hn hn' => by
      have hboth := (hfirst m n y hn).2 hn'
      rw [hlevel] at hboth
      cases hboth
    rw [State.firstNotice, hurgent, Option.none_or, ← hlevel, hchosen]

theorem firstNotice_eq_none (h : ∀ (i : Nat) (l : NoticeLine), s.notices[i]? = some l → l.detail = none) :
    s.firstNotice = none := by
  have hnone (v : Level) : s.firstPending v = none := firstPending_eq_none fun m n y hn _ => by
    obtain ⟨hline, hy⟩ := hn
    rw [h m n hline] at hy
    cases hy
  rw [State.firstNotice, hnone, hnone, Option.none_or]

end Choice

/-! ### The requests (R168, R171, R172) -/

section Requests

variable {s : State} {l : NoticeLine}

theorem exec_takeNotice {k : NoticeKind} {x : Detail} (h : s.listening) (hpends : s.Pends k.order l x)
    (hfirst : s.FirstAt k.order l) : exec .takeNotice s = .next
      ((s.putNotice k.order { l with detail := none }).answered Code.takeNotice .done
        (.notice (some (k, l.level, x)) (s.pendingCount - 1))) := by
  obtain ⟨hl, hx⟩ := hpends
  rw [← dropNotice_eq hl, ← pendingCount_dropNotice hl (by rw [hx]; rfl)]
  change request Code.takeNotice _ s = _
  refine request_answers h ?_
  simp only [firstNotice_eq_some ⟨hl, hx⟩ hfirst, hx]
  rfl

theorem exec_takeNotice_none (h : s.listening) (hnone : s.firstNotice = none) :
    exec .takeNotice s = .next (s.answered Code.takeNotice .done (.notice none 0)) := by
  change request Code.takeNotice _ s = _
  refine request_answers h ?_
  simp only [hnone]
  rfl

/-- SET_NOTICE with a kind, an enable or a level outside its codes (R168). -/
theorem exec_setNotice_outOfRange (h : s.listening) {kind enable level : Byte}
    (hbad : 16 ≤ kind.toNat ∨ 1 < enable.toNat ∨ ¬ (level = 1 ∨ level = 2)) :
    exec (.setNotice kind enable level) s = .next (s.answered Code.setNotice .outOfRange) := by
  change request Code.setNotice _ s = _
  refine request_bare h ?_
  rcases hbad with hkind | henable | hlevel
  · simp only [noticeKindOf_eq_none_iff.2 hkind]
  · have hnone : flagOf enable = none := by rw [flagOf_eq, if_pos henable]
    cases noticeKindOf kind <;> simp only [hnone]
  · have hnone : levelOf level = none := by rw [levelOf_eq, if_neg hlevel]
    cases noticeKindOf kind <;> cases flagOf enable <;> simp only [hnone]

/-- SET_NOTICE inside the codes writes the line of its kind (R168). -/
theorem exec_setNotice_done (h : s.listening) {kind enable level : Byte} (hkind : kind.toNat < 16)
    (henable : enable.toNat ≤ 1) (hlevel : level = 1 ∨ level = 2) (hl : s.notices[kind.toNat]? = some l) :
    exec (.setNotice kind enable level) s = .next
      ((s.putNotice kind.toNat (l.set (decide (enable = 1)) (if level = 1 then .urgent else .routine))).answered
        Code.setNotice .done (.noticeSetting (decide (enable = 1)) (if level = 1 then .urgent else .routine))) := by
  obtain ⟨k, hk⟩ := Option.ne_none_iff_exists'.1 (mt noticeKindOf_eq_none_iff.1 (not_le.2 hkind))
  change request Code.setNotice _ s = _
  refine request_answers h ?_
  simp only [hk, flagOf_eq, if_neg (not_lt.2 henable), levelOf_eq, if_pos hlevel, order_of_noticeKindOf hk,
    modify_eq_set_of_getElem? hl]
  rfl

end Requests

/-- Settles O49: a raising by the enable of its line, TAKE_NOTICE by the first pending kind, SET_NOTICE by its codes. -/
theorem noticesPendAndLeave : Obligations.NoticesPendAndLeave := by
  intro s pends first put count
  refine ⟨fun k x l hl => raise_eq hl x, fun h _ => ⟨?_, fun hnone => ?_⟩, fun h => ?_, fun h kind enable level => ?_⟩
  · intro k l x hpends hfirst
    exact exec_takeNotice h hpends hfirst
  · exact exec_takeNotice_none h (firstNotice_eq_none hnone)
  · exact request_answers h rfl
  · refine ⟨exec_setNotice_outOfRange h, fun l hgood hl => ?_⟩
    obtain ⟨hkind, hcodes⟩ := not_or.1 hgood
    obtain ⟨henable, hlevel⟩ := not_or.1 hcodes
    exact exec_setNotice_done h (not_le.1 hkind) (not_lt.1 henable) (not_not.1 hlevel) hl

end Sys2Proof.Machine
end

section
/-! PROOFS. Frames of the link as selections (R174 to R176; log 4, log 7): what each does that meets an unread answer or
a port that a reset left waiting, and the answers to frames that cannot be read. -/

namespace Sys2Proof.Machine

open Sys2Proof

variable {c : Instr} {s : State}

theorem answering_overrun {a : Answer} (hl : s.link = some a) (kind : Byte) (f : State → State × Reply) :
    s.answering kind f = { s with link := some { a with overrun := true } } := by
  rw [State.answering, hl]

/-- A frame of the link is a selection; taken with an answer unread, it sets that answer's overrun mark alone (R176). -/
theorem exec_frame (hc : c.completesFrame = true) : ∃ f, (∀ s, exec c s = selection f s) ∧
    ∀ s a, s.link = some a → f s = { s with link := some { a with overrun := true } } := by
  cases c with
  | answerRead | powerOn | pinReset | cycleSlot | cellAnswer | answerWindowLapse | warmUpLapse | loopStateChange
  | limitSwitchChange | warnTimeLapse | driveLimitLapse | settleTimeLapse | tagFrame | callWaitLapse | boardTimerLapse
  | captureTimerLapse | yardClockAdvance | emergencyInputChange | setupTimeLapse | strobeTimeLapse | holdTimeLapse
  | pbusyChange | busyWaitLapse | pfltChange | pdoneChange | completionLimitLapse | mainSupplyLoss => cases hc
  | overrun | restart => exact ⟨_, fun _ => rfl, fun s a hl => by simp only [hl, Option.map_some]⟩
  | _ => exact ⟨_, fun _ => rfl, fun _ _ hl => answering_overrun hl _ _⟩

/-- A frame of the link and the reading of an answer are selections (R174). -/
theorem exec_selection (hc : c.completesFrame = true ∨ c = .answerRead) : ∃ f, ∀ s, exec c s = selection f s := by
  rcases hc with hframe | rfl
  · obtain ⟨f, hf, -⟩ := exec_frame hframe
    exact ⟨f, hf⟩
  · exact ⟨_, fun _ => rfl⟩

theorem exec_frame_unread {a : Answer} (hc : c.completesFrame = true) (hp : s.powered = true)
    (hw : s.port.ncs = .inactive) (hl : s.link = some a) :
    exec c s = .next { s with link := some { a with overrun := true } } := by
  obtain ⟨f, hf, hover⟩ := exec_frame hc
  rw [hf, selection_taken f s hp hw, hover s a hl]

theorem exec_selection_unfinished (hc : c.completesFrame = true ∨ c = .answerRead) (hp : s.powered = true)
    (hw : s.port.ncs = .unfinished) : exec c s = .next { s with port := ⟨s.port.received, .inactive⟩ } := by
  obtain ⟨f, hf⟩ := exec_selection hc
  rw [hf, selection_ignored f s hp hw]
  rfl

theorem exec_selection_finished (hc : c.completesFrame = true ∨ c = .answerRead) (hp : s.powered = true)
    (hw : s.port.ncs = .finished) : exec c s = exec c { s with port := ⟨s.port.received, .inactive⟩ } := by
  obtain ⟨f, hf⟩ := exec_selection hc
  calc exec c s = .next (f s.sawInactive) := by rw [hf, selection_later f s hp hw]
    _ = exec c s.sawInactive := by rw [hf, selection_taken f s.sawInactive hp rfl]

theorem exec_malformedFrame (h : s.listening) (kind : Byte) :
    exec (.malformedFrame kind) s = .next (s.answered kind .malformed) :=
  query_performed kind _ s h

theorem exec_cutShortFrame (h : s.listening) (kind : Option Byte) :
    exec (.cutShortFrame kind) s = .next (s.answered (kind.getD 0) .malformed) :=
  query_performed (kind.getD 0) _ s h

/-- With the buffer empty no frame overruns (log 4). -/
theorem exec_overrun_empty (h : s.listening) : exec .overrun s = .next s := by
  obtain ⟨hp, hl, hw⟩ := h
  have hmark : { s with link := s.link.map fun a => { a with overrun := true } } = s := by
    rw [hl, Option.map_none, ← hl]
  exact (selection_taken _ s hp hw).trans (congrArg Host.Outcome.next hmark)

theorem exec_answerRead (hp : s.powered = true) (hw : s.port.ncs = .inactive) :
    exec .answerRead s = .next { s with link := none } :=
  selection_taken _ s hp hw

end Sys2Proof.Machine
end

section
/-! PROOFS. The Link Port byte by byte (R174, R177): when a byte completes a frame or the reading of an answer, and what
the end of a selection hands over. -/

namespace Sys2Proof

variable {closed : Bool} {pins : Pins} {kind len : Byte} {body : List Byte}

/-! ### Whole frames (R177, R186) -/

/-- Every kind that R186 lists spells a request: `requestOf` tests the kinds of `bodyLengths` in their order. -/
theorem requestOf_ne_none (closed : Bool) (pins : Pins) (body : List Byte) (hkind : lengthsOf kind ≠ []) :
    requestOf closed pins kind body ≠ none := by
  intro hnone
  have hite (p : Prop) [Decidable p] (c : Instr) (e : Option Instr) :
      (if p then some c else e) = none ↔ ¬ p ∧ e = none := by
    split <;> simp [*]
  simp only [requestOf, hite] at hnone
  have hlookup : bodyLengths.lookup kind = none := by
    refine List.lookup_eq_none_iff.2 ?_
    simp only [bodyLengths, List.cons_append, List.nil_append, List.forall_mem_cons, bne_iff_ne, ne_eq]
    simpa only [List.not_mem_nil, false_implies, implies_true, and_true] using hnone
  exact hkind (by rw [lengthsOf, hlookup, Option.getD_none])

theorem classify_long (h : 60 < len.toNat) : classify (0xA5 :: kind :: len :: body) = .malformed kind := by
  simp [classify, h]

theorem classify_short (hlen : len.toNat ≤ 60) (h : body.length < len.toNat) :
    classify (0xA5 :: kind :: len :: body) = .cutShort (some kind) := by
  simp [classify, not_lt.2 hlen, h]

theorem classify_whole (hlen : len.toNat ≤ 60) (h : len.toNat ≤ body.length) :
    classify (0xA5 :: kind :: len :: body) =
      if len.toNat ∈ lengthsOf kind then .request kind (body.take len.toNat) else .malformed kind := by
  simp [classify, not_lt.2 hlen, not_lt.2 h]

theorem classify_read {sdi : List Byte} (h : sdi = [] ∨ sdi.head? ≠ some 0xA5) :
    classify sdi = .nothing ∨ classify sdi = .read := by
  cases sdi with
  | nil => exact .inl rfl
  | cons first rest =>
    have hfirst : first ≠ 0xA5 := by simpa using h
    exact .inr (if_pos hfirst)

theorem commandOf_listed (hlen : len.toNat ≤ 60) (hbody : body.length = len.toNat) (h : len.toNat ∈ lengthsOf kind) :
    commandOf closed pins (0xA5 :: kind :: len :: body) = requestOf closed pins kind body := by
  rw [commandOf, classify_whole hlen hbody.ge, if_pos h, List.take_of_length_le hbody.le]

theorem commandOf_unlisted (hlen : len.toNat ≤ 60) (hbody : body.length = len.toNat) (h : len.toNat ∉ lengthsOf kind) :
    commandOf closed pins (0xA5 :: kind :: len :: body) = some (.malformedFrame kind) := by
  rw [commandOf, classify_whole hlen hbody.ge, if_neg h]

namespace Machine

variable {s : State} {sdi : List Byte}

/-! ### The bytes of a selection (R174) -/

theorem frameComplete_iff : frameComplete sdi = true ↔
    ∃ kind len body, sdi = 0xA5 :: kind :: len :: body ∧ len.toNat ≤ 60 ∧ body.length = len.toNat := by
  constructor
  · intro h
    unfold frameComplete at h
    split at h
    · next first kind len body =>
      simp only [Bool.and_eq_true, beq_iff_eq, decide_eq_true_eq] at h
      obtain ⟨⟨rfl, hlen⟩, hbody⟩ := h
      exact ⟨kind, len, body, rfl, hlen, hbody⟩
    · cases h
  · rintro ⟨kind, len, body, rfl, hlen, hbody⟩
    simp [frameComplete, hlen, hbody]

theorem readsAnswer_iff : readsAnswer sdi = true ↔ ∃ first rest, sdi = first :: rest ∧ first ≠ 0xA5 := by
  cases sdi <;> simp [readsAnswer]

/-- The bytes of a selection read the whole of the unread answer (R174; log 36). -/
def State.ReadsLast (s : State) (sdi : List Byte) : Prop :=
  readsAnswer sdi = true ∧ ∃ a, s.link = some a ∧ sdi.length = a.frame.length

/-- A frame that is complete is not a read selection (R174). -/
theorem frameComplete_of_reads (h : readsAnswer sdi = true) : frameComplete sdi = false := by
  obtain ⟨first, rest, rfl, hfirst⟩ := readsAnswer_iff.1 h
  refine Bool.eq_false_iff.2 fun hc => ?_
  obtain ⟨kind, len, body, heq, -, -⟩ := frameComplete_iff.1 hc
  exact hfirst (List.cons.inj heq).1

theorem byteCommand_complete (h : frameComplete sdi = true) :
    s.byteCommand closed pins sdi = commandOf closed { pins with ncs := .finished } sdi := if_pos h

theorem byteCommand_readsLast (h : s.ReadsLast sdi) : s.byteCommand closed pins sdi = some .answerRead := by
  obtain ⟨hreads, a, hl, hlength⟩ := h
  simp [State.byteCommand, frameComplete_of_reads hreads, hl, hreads, hlength]

theorem byteCommand_none (hframe : frameComplete sdi = false) (hlast : ¬ s.ReadsLast sdi) :
    s.byteCommand closed pins sdi = none := by
  cases hl : s.link with
  | none => simp [State.byteCommand, hframe, hl]
  | some a =>
    have hshort : ¬ (readsAnswer sdi = true ∧ sdi.length = a.frame.length) := fun ⟨hreads, hlength⟩ =>
      hlast ⟨hreads, a, hl, hlength⟩
    simpa [State.byteCommand, hframe, hl] using hshort

/-- The request buffer written, where NCS has been seen inactive since the last reset. -/
theorem setReceived_eq (hw : s.port.ncs = .inactive) (sdi : List Byte) :
    s.setReceived sdi = { s with port := ⟨sdi, .inactive⟩ } := by
  simp only [State.setReceived, hw]

section Bytes

variable {b : Byte} (hp : s.powered = true) (hw : s.port.ncs = .inactive)
include hp hw

theorem clockByte_takes (closed : Bool) (pins : Pins) (b : Byte) : s.clockByte closed pins b =
    s.handOver (s.byteCommand closed pins (s.port.received ++ [b])) (s.port.received ++ [b]) := if_pos ⟨hp, hw⟩

/-- The byte that completes a frame hands it over (R174). -/
theorem clockByte_complete {c : Instr} (h : frameComplete (s.port.received ++ [b]) = true)
    (hc : commandOf closed { pins with ncs := .finished } (s.port.received ++ [b]) = some c) :
    s.clockByte closed pins b = exec c { s with port := ⟨s.port.received ++ [b], .inactive⟩ } := by
  rw [clockByte_takes hp hw, byteCommand_complete h, hc, State.handOver, setReceived_eq hw]

/-- The byte that reads the last byte of the answer empties the buffer (R174, R175). -/
theorem clockByte_readsLast (h : s.ReadsLast (s.port.received ++ [b])) : s.clockByte closed pins b =
    .next { s with port := ⟨s.port.received ++ [b], .inactive⟩, link := none } := by
  rw [clockByte_takes hp hw, byteCommand_readsLast h, State.handOver, setReceived_eq hw]
  exact exec_answerRead hp rfl

theorem clockByte_joins (hframe : frameComplete (s.port.received ++ [b]) = false)
    (hlast : ¬ s.ReadsLast (s.port.received ++ [b])) :
    s.clockByte closed pins b = .next { s with port := ⟨s.port.received ++ [b], .inactive⟩ } := by
  rw [clockByte_quiet s closed pins b hp hw (byteCommand_none hframe hlast), setReceived_eq hw]

/-! ### The end of a selection (R174, R177) -/

theorem deselect_hands : s.deselect = s.handOver (deselectCommand s.port.received) [] := by
  rw [State.deselect, if_pos hp, if_pos hw]

theorem deselect_quiet (h : deselectCommand s.port.received = none) :
    s.deselect = .next { s with port := ⟨[], .inactive⟩ } := by
  rw [deselect_hands hp hw, h, State.handOver, setReceived_eq hw]

theorem deselect_command {c : Instr} (h : deselectCommand s.port.received = some c) :
    s.deselect = exec c { s with port := ⟨[], .inactive⟩ } := by
  rw [deselect_hands hp hw, h, State.handOver, setReceived_eq hw]

end Bytes

theorem deselectCommand_read (h : sdi = [] ∨ sdi.head? ≠ some 0xA5) : deselectCommand sdi = none := by
  rcases classify_read h with hc | hc <;> rw [deselectCommand, hc]

theorem deselectCommand_long (h : 60 < len.toNat) :
    deselectCommand (0xA5 :: kind :: len :: body) = some (.malformedFrame kind) := by
  rw [deselectCommand, classify_long h]
  exact if_pos h

theorem deselectCommand_short (hlen : len.toNat ≤ 60) (h : body.length < len.toNat) :
    deselectCommand (0xA5 :: kind :: len :: body) = some (.cutShortFrame (some kind)) := by
  rw [deselectCommand, classify_short hlen h]

/-- The end of a selection that has completed its frame hands nothing over (R174). -/
theorem deselectCommand_whole (hlen : len.toNat ≤ 60) (h : len.toNat ≤ body.length) :
    deselectCommand (0xA5 :: kind :: len :: body) = none := by
  rw [deselectCommand, classify_whole hlen h]
  by_cases hlisted : len.toNat ∈ lengthsOf kind
  · rw [if_pos hlisted]
  · rw [if_neg hlisted]
    exact if_neg (not_lt.2 hlen)

end Machine
end Sys2Proof
end

section
/-! PROOFS. The bytes of an answer and of a read selection (R174, R184, R185; log 36). -/

namespace Sys2Proof

theorem bytesOfNat_one (n : Nat) : bytesOfNat 1 n = [BitVec.ofNat 8 n] := by
  simp [bytesOfNat, bytesOfInt, BitVec.ofInt_natCast]

theorem bytesOfNat_two (n : Nat) : bytesOfNat 2 n = [BitVec.ofNat 8 (n / 256), BitVec.ofNat 8 n] := by
  simp only [bytesOfNat, bytesOfInt, List.nil_append, List.cons_append, BitVec.ofInt_natCast]
  norm_cast

namespace Machine

variable {s : State} {a : Answer}

/-- A mark of the answer frame is one byte (R184). -/
theorem bytesOfNat_bit (b : Bool) : bytesOfNat 1 (bit b) = [if b then 1 else 0] := by
  cases b <;> rfl

theorem frame_eq (a : Answer) : a.frame = [0xA5, a.kind, BitVec.ofNat 8 a.code.byte, if a.adjusted then 1 else 0,
    if a.overrun then 1 else 0, BitVec.ofNat 8 a.body.bytes.length] ++ a.body.bytes := by
  rw [Answer.frame, Answer.header, bytesOfNat_bit, bytesOfNat_bit, bytesOfNat_one, bytesOfNat_one]
  rfl

/-- The more significant byte of a revision goes first (R184). -/
theorem revision_bytes (r : Revision) : Body.bytes (.revision r) = [r.extractLsb' 8 8, r.extractLsb' 0 8] := by
  have hhigh : BitVec.ofNat 8 (r.toNat / 256) = r.extractLsb' 8 8 := by
    rw [BitVec.extractLsb', Nat.shiftRight_eq_div_pow]
  have hlow : BitVec.ofNat 8 r.toNat = r.extractLsb' 0 8 := by rw [BitVec.extractLsb', Nat.shiftRight_zero]
  rw [Body.bytes, bytesOfNat_two, hhigh, hlow]

/-! ### SDO (R174) -/

theorem readSelection_empty (h : s.link = none) (n : Nat) : s.readSelection n = List.replicate n 0x00 := by
  rw [State.readSelection, h]
  rfl

theorem readSelection_length (s : State) (n : Nat) : (s.readSelection n).length = n := by
  unfold State.readSelection
  split <;> simp

theorem readSelection_getElem? (h : s.link = some a) {i n : Nat} (hi : i < n) :
    (s.readSelection n)[i]? = some (a.frame.getD i 0x00) := by
  rw [State.readSelection, h]
  dsimp only
  rw [List.getElem?_take_of_lt hi, List.getD_eq_getElem?_getD]
  by_cases hframe : i < a.frame.length
  · rw [List.getElem?_append_left hframe, List.getElem?_eq_getElem hframe, Option.getD_some]
  · rw [List.getElem?_append_right (not_lt.1 hframe), List.getElem?_eq_none (not_lt.1 hframe), Option.getD_none,
      List.getElem?_replicate, if_pos (by omega)]
    rfl

theorem readsAnswer_append_iff {b : Byte} {sdi : List Byte} :
    readsAnswer (sdi ++ [b]) = true ↔ (sdi ++ [b]).head? ≠ some 0xA5 := by
  cases sdi <;> simp [readsAnswer]

/-- A byte of a read selection goes out from the answer (R174; log 36). -/
theorem sdoByte_reads {b : Byte} (hreads : readsAnswer (s.port.received ++ [b]) = true) (hw : s.port.ncs = .inactive) :
    s.sdoByte b = (s.readSelection (s.port.received.length + 1)).getD s.port.received.length filler := by
  simp [State.sdoByte, State.selectionOut, hreads, hw]

theorem sdoByte_empty (h : s.link = none) (b : Byte) : s.sdoByte b = 0x00 := by
  by_cases hreads : readsAnswer (s.port.received ++ [b]) = true ∧ s.port.ncs = .inactive
  · rw [sdoByte_reads hreads.1 hreads.2, readSelection_empty h]
    simp [filler]
  · rw [sdoByte_filler s b (by simpa [or_iff_not_imp_left] using hreads)]
    rfl

theorem sdoByte_answer {b : Byte} (hfirst : (s.port.received ++ [b]).head? ≠ some 0xA5) (hw : s.port.ncs = .inactive)
    (hl : s.link = some a) : s.sdoByte b = a.frame.getD s.port.received.length 0x00 := by
  rw [sdoByte_reads (readsAnswer_append_iff.2 hfirst) hw, List.getD_eq_getElem?_getD,
    readSelection_getElem? hl (Nat.lt_succ_self _), Option.getD_some]

/-! ### The link -/

/-- Settles O3: a frame of the link is a selection that marks an unread answer; a byte or the end of a selection hands
over the command that its bytes spell, and SDO carries the answer's frame in a read selection. -/
theorem linkFramesAndAnswers : Obligations.LinkFramesAndAnswers := by
  refine ⟨fun _ _ _ => exec_frame_unread, fun _ _ => exec_selection_unfinished,
    fun _ _ => exec_selection_finished, fun s => ?frames, fun s closed pins b hp => ?byte,
    fun s hp => ?deselect, fun closed pins kind len body hlen hbody => ?whole, fun a => ?frame, revision_bytes,
    fun s => ?sdo⟩
  case frames =>
    exact ⟨exec_malformedFrame, fun h kind => exec_cutShortFrame h (some kind), fun h => exec_cutShortFrame h none,
      exec_overrun_empty, exec_answerRead⟩
  case byte =>
    intro sdi got e done last
    have hdone : done ↔ frameComplete sdi = true := frameComplete_iff.symm
    have hlast : last ↔ s.ReadsLast sdi := and_congr_left' readsAnswer_iff.symm
    rw [hdone, hlast]
    refine ⟨clockByte_waits s closed pins b, fun hw hframe c hc => clockByte_complete hp hw hframe hc,
      fun hw hread => clockByte_readsLast hp hw hread, fun hw hframe hread => ?_⟩
    exact clockByte_joins hp hw (Bool.eq_false_iff.2 hframe) hread
  case deselect =>
    intro ended sdi
    refine ⟨deselect_waits s hp, fun hw hread => deselect_quiet hp hw (deselectCommand_read hread),
      fun hw hcut => deselect_command hp hw (congrArg deselectCommand hcut),
      fun hw kind hcut => deselect_command hp hw (congrArg deselectCommand hcut), fun hw kind len body hbytes => ?_⟩
    have hcommand := congrArg deselectCommand hbytes
    exact ⟨fun hlong => deselect_command hp hw (hcommand.trans (deselectCommand_long hlong)),
      fun hlen hshort => deselect_command hp hw (hcommand.trans (deselectCommand_short hlen hshort)),
      fun hlen hwhole => deselect_quiet hp hw (hcommand.trans (deselectCommand_whole hlen hwhole))⟩
  case whole =>
    exact ⟨fun hlisted => ⟨commandOf_listed hlen hbody hlisted,
      requestOf_ne_none closed pins body (List.ne_nil_of_mem hlisted)⟩, commandOf_unlisted hlen hbody⟩
  case frame =>
    rw [frame_eq]
    cases a.code <;> rfl
  case sdo =>
    refine ⟨fun n => ⟨fun hl => readSelection_empty hl n, fun a hl => ⟨readSelection_length s n, fun i hi =>
      readSelection_getElem? hl hi⟩⟩, fun b => ⟨fun hfiller => ?_, fun a => sdoByte_answer⟩⟩
    rcases hfiller with hsync | hwaits | hl
    · exact sdoByte_filler s b (.inl (Bool.eq_false_iff.2 fun hreads => readsAnswer_append_iff.1 hreads hsync))
    · exact sdoByte_filler s b (.inr hwaits)
    · exact sdoByte_empty hl b

end Machine
end Sys2Proof
end

section
/-! PROOFS. The queue of waiting commands through the shared operations: none of them touches it. -/

namespace Sys2Proof.Machine

/-- `t` has the queue of `s`. -/
def SameQueue (s t : State) : Prop := t.pending = s.pending

theorem SameQueue.refl (s : State) : SameQueue s s := rfl

theorem SameQueue.trans {s t u : State} (h : SameQueue s t) (k : SameQueue t u) : SameQueue s u := Eq.trans k h

theorem RecordsOnly.queue {s t : State} (h : RecordsOnly s t) : SameQueue s t := h.pending

theorem YardOnly.queue {s t : State} (h : YardOnly s t) : SameQueue s t := h.pending

theorem sameQueue_linkFree (s : State) : LinkFree (SameQueue s) where
  link _ _ h := h
  port _ _ h := h

/-! ### The cycles of a deck (R1 to R7) -/

theorem evaluate_queue (s : State) (d : DeckId) (warming : Bool) (good : List Good) :
    SameQueue s (s.evaluate d warming good) := by
  cases hr : (s.deck d).cal.record with
  | none =>
    rw [evaluate_uncalibrated hr]
    exact .refl s
  | some r =>
    obtain ⟨-, -, -, -, -, hpending, -⟩ := evaluate_frame hr warming good
    exact hpending

theorem pollNext_queue (s : State) (d : DeckId) (warming : Bool) (todo : List Nat) (good : List Good) :
    SameQueue s (s.pollNext d warming todo good) := by
  cases todo with
  | nil => exact evaluate_queue _ d warming good
  | cons i rest => exact .refl s

theorem takeSlot_queue (s : State) (d : DeckId) : SameQueue s (s.takeSlot d) :=
  keeps_ite (P := SameQueue s) (pollNext_queue _ d _ _ _) (.refl s)

theorem deckFault_queue (s : State) (d : DeckId) : SameQueue s (s.deckFault d) := (refuseWaiting_yard _ d).queue

theorem missCell_queue (s : State) (d : DeckId) (i : Nat) : SameQueue s (s.missCell d i) := by
  unfold State.missCell
  dsimp only
  split
  · exact .refl s
  · split
    · exact deckFault_queue _ d
    · exact deckFault_queue _ d
    · exact .refl s

theorem endExchange_queue (s : State) (d : DeckId) (c : Cycle) (g : Option Good) :
    SameQueue s (s.endExchange d c g) := by
  cases g with
  | none => exact (missCell_queue s d c.awaiting).trans (pollNext_queue _ d _ _ _)
  | some g => exact pollNext_queue _ d _ _ _

/-! ### Quiet running, the latch and the readers (R110, R137 to R148) -/

theorem wakeYard_queue (s : State) (c : WakeCause) : SameQueue s (s.wakeYard c) := by
  rw [wakeYard_eq]
  exact .refl s

theorem wakeSource_queue (s : State) (c : WakeCause) : SameQueue s (s.wakeSource c) :=
  keeps_ite (P := SameQueue s) (wakeYard_queue s c) (.refl s)

theorem setLatch_queue (s : State) : SameQueue s s.setLatch := by
  refine SameQueue.trans ?_ (wakeSource_queue _ .emergency)
  refine eachDeck_keeps (P := SameQueue s) (fun x d h => h.trans ?_)
    (eachGate_keeps (P := SameQueue s) (fun x g h => h.trans (gateEvent_yard x g _).queue) (.refl s))
  exact ((abortSession_yard x d).trans (dropCalls_yard _ d)).queue

theorem releaseLatch_queue (s : State) : SameQueue s s.releaseLatch :=
  eachDeck_keeps (P := SameQueue s) (fun x d h => h.trans (offer_yard x d).queue)
    (eachGate_keeps (P := SameQueue s) (fun x g h => h.trans (gateEvent_yard x g _).queue) (.refl s))

theorem loopEvent_queue (s : State) (g : GateId) (occupied : Bool) : SameQueue s (s.loopEvent g occupied) := by
  have hgate := gateEvent_yard s g fun x => x.loopChange s.now occupied
  have hsession := (hgate.trans (sessionLoop_yard _ g occupied)).queue
  exact keeps_ite (P := SameQueue s) (hsession.trans (wakeSource_queue _ _)) hsession

theorem acceptedRead_queue (s : State) (g : GateId) (k : Tag) : SameQueue s (s.acceptedRead g k) :=
  keeps_ite (P := SameQueue s)
    (keeps_ite (P := SameQueue s) ((wakeYard_queue s _).trans (arbitrateCall_yard _ g _).queue) (.refl s))
    (arbitrateCall_yard s g _).queue

/-! ### Gates and their phases (R93, R104) -/

theorem hostMove_queue (s : State) (gate : Byte) (f : Gate → Gate) : SameQueue s (s.hostMove gate f).1 := by
  unfold State.hostMove
  split
  · exact .refl s
  · split
    · exact .refl s
    · exact (gateEvent_yard s _ f).queue

theorem phaseLapse_queue (s : State) (g : GateId) (p : Phase) (f : Nat → Gate → Gate) :
    SameQueue s (s.phaseLapse g p f) :=
  phaseLapse_keeps (P := SameQueue s) (fun _ _ h => h) (fun x _ h => h.trans (gateEvent_yard x g _).queue) (.refl s)

/-! ### Resets and CLEAR_TABLES (R181 to R183) -/

theorem performReset_queue (s : State) (cause : ResetCause) (lost : Bool) (pins : Pins) :
    SameQueue s (s.performReset cause lost pins) := by
  have hserved : SameQueue s (s.resetBlocks cause lost pins).serveBus := (serveBus_records _).queue
  exact keeps_ite (P := SameQueue s) (hserved.trans (setLatch_queue _)) hserved

theorem clearTables_queue (s : State) : SameQueue s s.clearTables :=
  eachDeck_keeps (P := SameQueue s) (fun x d h => h.trans (refuseWaiting_yard x d).queue) (.refl s)

end Sys2Proof.Machine
end

section
/-! PROOFS. Every command answers a next state and leaves the queue, and is inert without supply (R177, R182; log 5). -/

namespace Sys2Proof.Machine

variable {s t : State}

/-! ### The frames of a command -/

theorem request_queue {kind : Byte} {f : State → State × Reply} (hf : ∀ s, SameQueue s (f s).1)
    (h : request kind f s = .next t) : SameQueue s t :=
  request_keeps (sameQueue_linkFree s) (fun _ _ hs => hs.trans (hf _)) (.refl s) h

theorem event_queue {f : State → State} (hf : ∀ s, SameQueue s (f s)) (h : event f s = .next t) : SameQueue s t :=
  event_keeps (P := SameQueue s) (fun _ _ hs => hs.trans (hf _)) (.refl s) h

theorem visitRequest_queue {kind slot : Byte} {expected : Option Revision} {own : State → Nat → State × Reply}
    (hf : ∀ s n, SameQueue s (own s n).1)
    (h : request kind (fun s => s.visitRequest slot expected (own s)) s = .next t) : SameQueue s t :=
  request_queue (fun s => visitRequest_keeps (P := SameQueue s) (hf s) (.refl s)) h

theorem accountRequest_queue {kind : Byte} {number : AccountNo} {own : State → Account → State × Reply}
    (hf : ∀ s a, SameQueue s (own s a).1) (h : request kind (fun s => s.withAccount number (own s)) s = .next t) :
    SameQueue s t :=
  request_queue (fun s => withAccount_keeps (P := SameQueue s) (hf s) (.refl s)) h

/-- A lapse of the job's timer whose effect touches no more than records. -/
theorem jobLapse_queue {due : JobPhase → Option Nat} {f : State → Job → State} (hf : ∀ s j, RecordsOnly s (f s j))
    (h : event (fun s => s.jobLapse due f) s = .next t) : SameQueue s t :=
  event_queue (fun s => jobLapse_keeps (P := SameQueue s) (fun _ _ h => h) (fun _ _ h => h.trans (hf _ _).queue)
    (.refl s)) h

/-! ### The requests on visits and accounts (R55 to R62, R78 to R81, R161, R162) -/

theorem execAmend_queue {slot : Byte} {e : Option Revision} {k : Option Byte} {p : Option (List Byte)}
    {a : Option AccountNo} (h : execAmend slot e k p a s = .next t) : SameQueue s t := by
  refine visitRequest_queue (fun s n => ?_) h
  split
  · split
    · exact (amend_records s n _ _ _ _).queue
    · exact .refl s
  · exact .refl s

theorem execCancelVisit_queue {slot : Byte} {e : Option Revision} (h : execCancelVisit slot e s = .next t) :
    SameQueue s t := by
  refine visitRequest_queue (fun s n => ?_) h
  split
  · split
    · exact (countDown_records (s.writeSlot n none) _).queue
    · exact .refl s
  · exact .refl s

theorem execResolveClose_queue {slot action target : Byte} {e : Option Revision} {net : Option (BitVec 32)}
    (h : execResolveClose slot e action target net s = .next t) : SameQueue s t := by
  refine visitRequest_queue (fun s n => ?_) h
  split
  · split
    · split
      · exact (resolveClose_records s n _ _ _ _ _).queue
      · split <;> exact .refl s
    · exact .refl s
  · exact .refl s

theorem execRedirect_queue {slot target : Byte} {e : Option Revision} (h : execRedirect slot e target s = .next t) :
    SameQueue s t := by
  refine visitRequest_queue (fun s n => ?_) h
  split
  · split
    · iterate 2
        split
        · exact .refl s
      exact (doneAndServe_records s n _).queue
    · exact .refl s
  · exact .refl s

theorem execReprint_queue {slot : Byte} {e : Option Revision} (h : execReprint slot e s = .next t) : SameQueue s t := by
  refine visitRequest_queue (fun s n => ?_) h
  split
  · split
    · iterate 2
        split
        · exact .refl s
      split
      · exact (doneAndServe_records s n _).queue
      · exact .refl s
    · exact .refl s
  · exact .refl s

theorem execCredit_queue {number : AccountNo} {amount : BitVec 32} (h : execCredit number amount s = .next t) :
    SameQueue s t := by
  refine accountRequest_queue (fun s _ => ?_) h
  exact keeps_ite (P := SameQueue s) (.refl s) (.refl s)

/-! ### The requests on decks, gates, sessions, printers and the Service Unit -/

theorem execCalPut_queue {closed : Bool} {body : CalBody} (h : execCalPut closed body s = .next t) : SameQueue s t := by
  refine request_queue (fun s => ?_) h
  dsimp only
  iterate 4
    split
    · exact .refl s
  rw [calibrate_eq]
  exact .refl s

theorem execResetGate_queue {gate : Byte} (h : execResetGate gate s = .next t) : SameQueue s t := by
  refine request_queue (fun s => ?_) h
  iterate 3
    split
    · exact .refl s
  exact (gateEvent_yard s _ _).queue

theorem execUnlock_queue {gate : Byte} (h : execUnlock gate s = .next t) : SameQueue s t := by
  refine request_queue (fun s => ?_) h
  split
  · exact .refl s
  · exact (unlockGate_yard s _).queue

theorem execCall_queue {gate form : Byte} {key : List Byte} {account : AccountNo} {kind direction : Byte}
    (h : execCall gate form key account kind direction s = .next t) : SameQueue s t := by
  refine request_queue (fun s => ?_) h
  iterate 3
    split
    · exact .refl s
  exact (arbitrateCall_yard s _ _).queue

theorem execManualCapture_queue {deck : Byte} {weight : BitVec 32} (h : execManualCapture deck weight s = .next t) :
    SameQueue s t := by
  refine request_queue (fun s => ?_) h
  iterate 4
    split
    · exact .refl s
  exact (captureInto_yard s _ _ _).queue

theorem execCancelSession_queue {deck : Byte} (h : execCancelSession deck s = .next t) : SameQueue s t := by
  refine request_queue (fun s => ?_) h
  iterate 2
    split
    · exact .refl s
  split
  · next hcancel => exact (cancel_yard s _ _ _ hcancel).queue
  · exact .refl s

theorem execEmergencyRelease_queue (h : execEmergencyRelease s = .next t) : SameQueue s t := by
  refine request_queue (fun s => ?_) h
  iterate 2
    split
    · exact .refl s
  exact releaseLatch_queue s

theorem execQuiet_queue (h : execQuiet s = .next t) : SameQueue s t := by
  have hsleep (u : State) (d : DeckId) : SameQueue u (u.enterAsleep d) := by
    rw [enterAsleep_eq]
    exact .refl u
  refine request_queue (fun s => ?_) h
  iterate 2
    split
    · exact .refl s
  exact eachDeck_keeps (P := SameQueue s) (fun u d hu => hu.trans (hsleep u d)) (.refl s)

theorem execWake_queue (h : execWake s = .next t) : SameQueue s t := by
  refine request_queue (fun s => ?_) h
  split
  · exact wakeYard_queue s _
  · exact .refl s

theorem execReleasePrinter_queue {printer : Byte} (h : execReleasePrinter printer s = .next t) : SameQueue s t := by
  refine request_queue (fun s => ?_) h
  split
  · exact .refl s
  · split
    · split <;> exact .refl s
    · exact (returnPrinter_records s _).queue
    · exact .refl s

theorem execResumePrinter_queue {printer : Byte} (h : execResumePrinter printer s = .next t) : SameQueue s t := by
  refine request_queue (fun s => ?_) h
  split
  · exact .refl s
  · split
    · exact (returnPrinter_records s _).queue
    · exact .refl s

theorem checkStays_setService_queue (s : State) (x : Service) : SameQueue s (s.setService x).checkStays :=
  SameQueue.trans (t := s.setService x) (.refl s) (checkStays_records _).queue

theorem execSetClock_queue {seconds : Seconds} (h : execSetClock seconds s = .next t) : SameQueue s t := by
  refine request_queue (fun s => ?_) h
  dsimp only
  exact checkStays_setService_queue s _

theorem execSetSite_queue {maxStay tagWake loopWake : Byte} (h : execSetSite maxStay tagWake loopWake s = .next t) :
    SameQueue s t := by
  refine request_queue (fun s => ?_) h
  dsimp only
  split
  · dsimp only
    exact checkStays_setService_queue s _
  · exact .refl s

theorem execClearTables_queue {closed : Bool} (h : execClearTables closed s = .next t) : SameQueue s t := by
  refine request_queue (fun s => ?_) h
  iterate 2
    split
    · exact .refl s
  exact clearTables_queue s

/-! ### The events of cells, gates, readers and sessions -/

theorem execCycleSlot_queue {d : DeckId} (h : execCycleSlot d s = .next t) : SameQueue s t := by
  refine event_queue (fun s => ?_) h
  exact keeps_ite (P := SameQueue s) (takeSlot_queue (s.slotPassed d) d) (.refl s)

theorem execCellAnswer_queue {d : DeckId} {f : List Byte} (h : execCellAnswer d f s = .next t) : SameQueue s t := by
  refine event_queue (fun s => ?_) h
  split
  · exact endExchange_queue s d _ _
  · exact .refl s

theorem execAnswerWindowLapse_queue {d : DeckId} (h : execAnswerWindowLapse d s = .next t) : SameQueue s t := by
  refine event_queue (fun s => ?_) h
  split
  · exact endExchange_queue (s.reach _) d _ _
  · exact .refl s

theorem execWarmUpLapse_queue {d : DeckId} (h : execWarmUpLapse d s = .next t) : SameQueue s t := by
  refine event_queue (fun s => ?_) h
  split
  · exact .refl s
  · dsimp only
    split
    · exact keeps_ite (P := SameQueue s) (deckFault_queue _ d) (.refl s)
    · exact .refl s

theorem execLimitSwitchChange_queue {g : GateId} {w : LimitSwitch} {active : Bool}
    (h : execLimitSwitchChange g w active s = .next t) : SameQueue s t := by
  refine event_queue (fun s => ?_) h
  have hchanged := (gateEvent_yard s g fun x => x.switchChange s.now w active).queue
  exact keeps_ite (P := SameQueue s) (.refl s) hchanged

theorem execTagFrame_queue {g : GateId} {f : List Byte} (h : execTagFrame g f s = .next t) : SameQueue s t := by
  refine event_queue (fun s => ?_) h
  split
  · exact .refl s
  · exact keeps_ite (P := SameQueue s) (acceptedRead_queue (s.setGate g _) g _) (.refl s)

theorem execCallWaitLapse_queue {g : GateId} (h : execCallWaitLapse g s = .next t) : SameQueue s t := by
  refine event_queue (fun s => ?_) h
  split <;> exact .refl s

theorem execBoardTimerLapse_queue {d : DeckId} (h : execBoardTimerLapse d s = .next t) : SameQueue s t := by
  refine event_queue (fun s => ?_) h
  split
  · split
    · exact (giveUp_yard (s.reach _) d _).queue
    · exact .refl s
  · exact .refl s

theorem execCaptureTimerLapse_queue {d : DeckId} (h : execCaptureTimerLapse d s = .next t) : SameQueue s t := by
  refine event_queue (fun s => ?_) h
  split
  · split <;> exact .refl s
  · exact .refl s

theorem execEmergencyInputChange_queue {active : Bool} (h : execEmergencyInputChange active s = .next t) :
    SameQueue s t := by
  refine event_queue (fun s => ?_) h
  exact keeps_ite (P := SameQueue s) (.refl s) (keeps_ite (P := SameQueue s) (setLatch_queue _) (.refl s))

/-! ### The events of the print bus (R150, R156, R157) -/

theorem execPbusyChange_queue {p : PrinterId} {active : Bool} (h : execPbusyChange p active s = .next t) :
    SameQueue s t := by
  refine event_queue (fun s => ?_) h
  dsimp only
  repeat' split
  all_goals exact .refl s

theorem execPfltChange_queue {p : PrinterId} {active : Bool} (h : execPfltChange p active s = .next t) :
    SameQueue s t := by
  refine event_queue (fun s => ?_) h
  dsimp only
  split
  · exact .refl s
  · split
    · exact keeps_ite (P := SameQueue s) (faultJob_records (s.setPins p _) _ _).queue (.refl s)
    · exact .refl s

theorem execPdoneChange_queue {p : PrinterId} {active : Bool} (h : execPdoneChange p active s = .next t) :
    SameQueue s t := by
  refine event_queue (fun s => ?_) h
  dsimp only
  split
  · exact .refl s
  · split
    · split
      · exact keeps_ite (P := SameQueue s) (finishJob_records (s.setPins p _) _).queue (.refl s)
      · exact .refl s
    · exact .refl s

/-! ### The clock, the resets and the supply (R179, R181, R182) -/

theorem execYardClockAdvance_queue (h : execYardClockAdvance s = .next t) : SameQueue s t := by
  obtain rfl := Host.Outcome.next.inj h
  exact keeps_ite (P := SameQueue s) (checkStays_records s.tickClock).queue
    (keeps_ite (P := SameQueue s) (.refl s) (.refl s))

theorem execRestart_queue {pins : Pins} (h : execRestart pins s = .next t) : SameQueue s t := by
  refine selection_keeps (sameQueue_linkFree s) (fun x _ hx => ?_) (.refl s) h
  split
  · exact hx
  · exact hx.trans (performReset_queue x _ _ _)

theorem execPowerOn_queue {pins : Pins} (h : execPowerOn pins s = .next t) : SameQueue s t := by
  obtain rfl := Host.Outcome.next.inj h
  exact keeps_ite (P := SameQueue s) (performReset_queue s _ _ _) (performReset_queue s.loseRetained _ _ _)

/-! ### Every command -/

/-- Every command leaves the queue of waiting commands (log 2). -/
theorem exec_queue {c : Instr} (h : exec c s = .next t) : SameQueue s t := by
  cases c with
  | readDeck | calGet | find | getVehicle | getAccount | getKind | readSession | readPrinters | readNotices | status
  | malformedFrame | cutShortFrame => exact query_keeps (sameQueue_linkFree s) (.refl s) h
  | overrun | answerRead =>
    exact selection_keeps (sameQueue_linkFree s) (fun x _ hs => (sameQueue_linkFree s).link x _ hs) (.refl s) h
  -- Each outcome of these writes named fields of the state, and never the queue: the split names the outcomes.
  | retryCell | seek | setTicketNext | putVehicle | dropVehicle | putKind | setGate | lock | readGate | setDeckTimers
  | setPrint | holdPrinter | takeNotice | dropNotices | setNotice =>
    refine request_queue (fun s => ?_) h
    repeat' split
    all_goals exact .refl s
  | zero | walk | setTareFromDeck | putAccount =>
    refine request_queue (fun s => ?_) h
    dsimp only
    repeat' split
    all_goals exact .refl s
  | stop | release | dropAccount =>
    refine accountRequest_queue (fun s a => ?_) h
    repeat' split
    all_goals exact .refl s
  | resolveDiscard | collect =>
    refine visitRequest_queue (fun s n => ?_) h
    repeat' split
    all_goals exact .refl s
  | calPut => exact execCalPut_queue h
  | credit => exact execCredit_queue h
  | amend => exact execAmend_queue h
  | cancelVisit => exact execCancelVisit_queue h
  | resolveClose => exact execResolveClose_queue h
  | redirect => exact execRedirect_queue h
  | reprint => exact execReprint_queue h
  | raise | lower => exact request_queue (fun _ => hostMove_queue _ _ _) h
  | resetGate => exact execResetGate_queue h
  | unlock => exact execUnlock_queue h
  | call => exact execCall_queue h
  | manualCapture => exact execManualCapture_queue h
  | cancelSession => exact execCancelSession_queue h
  | emergencyRelease => exact execEmergencyRelease_queue h
  | quiet => exact execQuiet_queue h
  | wake => exact execWake_queue h
  | releasePrinter => exact execReleasePrinter_queue h
  | resumePrinter => exact execResumePrinter_queue h
  | setClock => exact execSetClock_queue h
  | setSite => exact execSetSite_queue h
  | clearTables => exact execClearTables_queue h
  | cycleSlot => exact execCycleSlot_queue h
  | cellAnswer => exact execCellAnswer_queue h
  | answerWindowLapse => exact execAnswerWindowLapse_queue h
  | warmUpLapse => exact execWarmUpLapse_queue h
  | loopStateChange =>
    exact event_queue (fun s => keeps_ite (P := SameQueue s) (.refl s) (loopEvent_queue s _ _)) h
  | limitSwitchChange => exact execLimitSwitchChange_queue h
  | warnTimeLapse | driveLimitLapse | settleTimeLapse => exact event_queue (fun s => phaseLapse_queue s _ _ _) h
  | tagFrame => exact execTagFrame_queue h
  | callWaitLapse => exact execCallWaitLapse_queue h
  | boardTimerLapse => exact execBoardTimerLapse_queue h
  | captureTimerLapse => exact execCaptureTimerLapse_queue h
  | emergencyInputChange => exact execEmergencyInputChange_queue h
  | setupTimeLapse => exact jobLapse_queue (fun _ _ => setJob_records _ _) h
  | strobeTimeLapse => exact jobLapse_queue strobeEnd_records h
  | holdTimeLapse => exact jobLapse_queue byteEnd_records h
  | busyWaitLapse | completionLimitLapse => exact jobLapse_queue (fun _ _ => faultJob_records _ _ _) h
  | pbusyChange => exact execPbusyChange_queue h
  | pfltChange => exact execPfltChange_queue h
  | pdoneChange => exact execPdoneChange_queue h
  | yardClockAdvance => exact execYardClockAdvance_queue h
  | restart => exact execRestart_queue h
  | pinReset => exact event_queue (fun s => performReset_queue s _ _ _) h
  | powerOn => exact execPowerOn_queue h
  | mainSupplyLoss =>
    obtain rfl := Host.Outcome.next.inj h
    exact .refl s

/-- Every command answers a next state: none of the frames of a command refuses or faults. -/
theorem exec_next (c : Instr) (s : State) : ∃ t, exec c s = .next t := by
  cases c <;> exact ⟨_, rfl⟩

/-- Without supply a command other than those of the supply and of the clock changes nothing (log 5). -/
theorem exec_dark {c : Instr} (hp : s.powered = false) (hon : ∀ pins, c ≠ .powerOn pins)
    (hloss : ∀ b, c ≠ .mainSupplyLoss b) (hclock : c ≠ .yardClockAdvance) : exec c s = .next s := by
  cases c with
  | powerOn pins => exact absurd rfl (hon pins)
  | mainSupplyLoss b => exact absurd rfl (hloss b)
  | yardClockAdvance => exact absurd rfl hclock
  | pinReset | cycleSlot | cellAnswer | answerWindowLapse | warmUpLapse | loopStateChange | limitSwitchChange
  | warnTimeLapse | driveLimitLapse | settleTimeLapse | tagFrame | callWaitLapse | boardTimerLapse | captureTimerLapse
  | emergencyInputChange | setupTimeLapse | strobeTimeLapse | holdTimeLapse | pbusyChange | busyWaitLapse | pfltChange
  | pdoneChange | completionLimitLapse =>
    unfold exec
    exact event_dark _ s hp
  | _ => exact selection_dark _ s hp

/-- Settles O2: no frame of a command refuses or faults, no command's work writes the queue, and without supply the
frames return the state they were given. -/
theorem everyCommandCompletes : Obligations.EveryCommandCompletes := by
  refine ⟨fun c s => ?_, fun c s hp hon hloss hclock => exec_dark hp hon hloss hclock⟩
  obtain ⟨t, ht⟩ := exec_next c s
  exact ⟨t, ht, exec_queue ht⟩

end Sys2Proof.Machine
end

section
/-! PROOFS. One step by the queue of waiting commands: the front command, or the idle millisecond (log 2). -/

namespace Sys2Proof.Machine

variable {s : State}

/-- A waiting command is taken from the front whole, and its work sees the queue without it. -/
theorem step_of_pending_cons {c : Instr} {rest : List Instr} (h : s.pending = c :: rest) :
    step s = exec c { s with pending := rest } := by
  unfold step
  rw [h]

/-- No timer lapses of itself: the time base alone moves. -/
theorem step_of_pending_nil (h : s.pending = []) : step s = .next s.idle := by
  unfold step
  rw [h]

/-- Settles O1, by the two forms of the queue. -/
theorem stepRunsFrontOrIdles : Obligations.StepRunsFrontOrIdles := by
  refine ⟨fun c rest s => ?front, fun s hempty => ?idle⟩
  case front => exact step_of_pending_cons (s := { s with pending := c :: rest }) rfl
  case idle => exact step_of_pending_nil hempty

end Sys2Proof.Machine
end
